-- ==== Sys2Proof/Word.lean ====
section
/-! DEFINITION. The word types of the 7260: the byte of its serial links and the 16-bit serial of a lug. -/

namespace Sys2Proof

/-- One byte of a frame on a port or on the zone link. -/
abbrev Byte := BitVec 8

/-- A lug serial or board tag, counting on from 65535 to 0 (00_scope.md 6.3, R2). -/
abbrev Tag := BitVec 16

/-- A set of saws as the bit mask of R178: bit k stands for saw k, saws 0 to 12. -/
abbrev SawSet := BitVec 13

end Sys2Proof
end

