-- ==== Sys2Proof/Config.lean ====
section
/-! DEFINITION. What the part fixes once and for all (capacities and code values of spec/), and the free values:
constants with no body, so that nothing can be proved of what they are. -/

namespace Sys2Proof.Config

/-- R171: the line port's outbound queue has 32 places, of which 8 are reserved. -/
def linePlaces : Nat := 32
def lineReserved : Nat := 8
/-- R171: the console port's outbound queue has 16 places, of which 4 are reserved. -/
def consolePlaces : Nat := 16
def consoleReserved : Nat := 4
/-- R166: the longest body of a port frame. -/
def maxBody : Nat := 240
/-- R174. -/
def partNumber : Nat := 7260
def interfaceLevel : Nat := 1
/-- R26: heads 1 to 12. -/
def headCount : Nat := 12
/-- R127: saws 0 to 12. -/
def sawCount : Nat := 13
/-- R66. -/
def queuePlaces : Nat := 8
/-- R67. -/
def regradePlaces : Nat := 4
/-- R68. -/
def engineCount : Nat := 3
/-- R141. -/
def runPlaces : Nat := 4
/-- R21: the defect list holds at most 40 items. -/
def defectPlaces : Nat := 40
/-- R17: a ZONE_REPORT lists at most 12 items. -/
def reportItems : Nat := 12
/-- R47. -/
def logMemoryPlaces : Nat := 8
/-- R38. -/
def logSamplePlaces : Nat := 120
/-- R104. -/
def stampPlaces : Nat := 12
/-- R180: the log head's address on the zone link. -/
def logHeadAddress : Nat := 0x20
/-- The greatest 16-bit and 32-bit numbers, at which counters saturate (R153, R171). -/
def max16 : Nat := 65535
def max32 : Nat := 4294967295

/-- FREE VALUE (log entry 4). The number that picks, of all orders of the blocks' parts of one lug event, the order
of the n-th such choice. Where the spec fixes no order between two parts (R7, R97, R146), either may come first. -/
opaque lugOrder : Nat → Nat

/-- FREE VALUE (log entry 5). The number that picks the order in which several heads, records or outcomes are treated
at one moment, at the n-th such choice. -/
opaque headOrder : Nat → Nat

/-- FREE VALUE (log entry 13). Two bytes of a reply that hold no field, by the number of the choice and the place. -/
opaque filler : Nat → Nat → BitVec 16

end Sys2Proof.Config
end

