-- ==== Sys2Proof/Machine/Bytes.lean ====
section
/-! DEFINITION. Bytes and byte order: little-endian numbers (R178), the check word CRC-16 (R17, R166), and the
choice of an order by a number. -/

namespace Sys2Proof.Machine

/-- A number below 256 as one byte. -/
def byteOf (n : Nat) : Byte := BitVec.ofNat 8 n

/-- A flag as one byte, 1 when set. -/
def flagByte (b : Bool) : Byte := if b then 1#8 else 0#8

/-- The absent value of a 1-byte field (R178). -/
def absentByte : Byte := 0xFF#8

/-- A number in two bytes, little-endian (R178). -/
def le2 (n : Nat) : List Byte := [byteOf n, byteOf (n / 256)]

/-- A number in four bytes, little-endian (R178). -/
def le4 (n : Nat) : List Byte := [byteOf n, byteOf (n / 256), byteOf (n / 65536), byteOf (n / 16777216)]

/-- A number in eight bytes, little-endian: the bin set of R178. -/
def le8 (n : Nat) : List Byte := le4 n ++ le4 (n / 4294967296)

/-- Byte k of a body, 0 beyond its end. -/
def byteAt (body : List Byte) (k : Nat) : Nat := (body.getD k 0#8).toNat

/-- The little-endian 2-byte number at byte k of a body. -/
def halfAt (body : List Byte) (k : Nat) : Nat := byteAt body k + 256 * byteAt body (k + 1)

/-- The little-endian 4-byte number at byte k of a body. -/
def wordAt (body : List Byte) (k : Nat) : Nat := halfAt body k + 65536 * halfAt body (k + 2)

/-- The tag at byte k of a body. -/
def tagAt (body : List Byte) (k : Nat) : Tag := BitVec.ofNat 16 (halfAt body k)

/-- One bit of the CRC-16 of R17 and R166: shift left, and take in the polynomial when a bit falls out. -/
def crcBit (crc : BitVec 16) : BitVec 16 :=
  if crc.msb then (crc <<< 1) ^^^ 0x1021#16 else crc <<< 1

/-- One byte of the CRC-16, most significant bit first, with no reflection. -/
def crcByte (crc : BitVec 16) (b : Byte) : BitVec 16 :=
  (List.range 8).foldl (fun c _ => crcBit c) (crc ^^^ (b.setWidth 16 <<< 8))

/-- The check word of R17 and R166: initial value 0xFFFF, no final inversion. -/
def crc16 (bytes : List Byte) : BitVec 16 := bytes.foldl crcByte 0xFFFF#16

/-- A check word as it is sent, low byte first (R178, R180). -/
def checkBytes (bytes : List Byte) : List Byte := le2 (crc16 bytes).toNat

/-- `x` put at place `n` of a list (at its end where the list is shorter). -/
def insertAt {α : Type} (n : Nat) (x : α) (l : List α) : List α :=
  match l with
  | [] => [x]
  | y :: ys =>
    match n with
    | 0 => x :: y :: ys
    | n + 1 => y :: insertAt n x ys
termination_by structural l

/-- The order of a list that the number `n` picks; every order of the list is picked by some number. -/
def permuteBy {α : Type} : Nat → List α → List α
  | _, [] => []
  | n, x :: xs => insertAt (n % (xs.length + 1)) x (permuteBy (n / (xs.length + 1)) xs)

/-- `n + k` held at `top` (saturating, 00_scope.md 6.2). -/
def satAdd (top n k : Nat) : Nat := min top (n + k)

end Sys2Proof.Machine
end

