-- ==== Sys2Proof/Syntax.lean ====
section
/-! DEFINITION. The commands of the 7260: one constructor per row of spec/opcode_table.json.

A request row (HELLO and the rows like it) names the step at which a port takes the frame waiting in its inbound
buffer (R168); the operands of the request are the body of that frame, placed there by FRAME_RECEIVED, so the
constructor carries the port alone. STATUS also carries the level of the marker-ready input, which its OUTFEED
page reports "as they stand when the request is taken" (R138, R175). -/

namespace Sys2Proof

/-- The two serial links of Chapter 11. -/
inductive Port where
  | line
  | console
deriving DecidableEq, Repr

/-- The commands. `frameOk` says whether the frame check word of a zone-link frame matched (its header check did). -/
inductive Instr where
  | powerOn
  | resetPin
  | lugEvent (eyeLoaded : Bool) (feedback : SawSet) (markerReady : Bool)
  | homePulse
  | zoneLinkFrameDiscard (bytes : List Byte)
  | zoneReport (sender : Byte) (serial : Tag) (frameOk : Bool) (body : List Byte)
  | calResult (sender : Byte) (serial : Tag) (frameOk : Bool) (body : List Byte)
  | logBegin (serial : Tag) (frameOk : Bool) (body : List Byte)
  | logSamples (serial : Tag) (frameOk : Bool) (body : List Byte)
  | logEnd (serial : Tag) (frameOk : Bool) (body : List Byte)
  | evaluationComplete (engine : Nat)
  | regradeComplete (engine : Nat)
  | silenceTimerExpiry
  | headCalDue (head : Nat)
  | headStale (head : Nat)
  | frameReceived (port : Port) (kind : Byte) (tag : Byte) (body : List Byte)
  | interByteGapTimeout (port : Port)
  | frameSent (port : Port)
  | partResetComplete
  | unknownKind (port : Port)
  | hello (port : Port)
  | status (port : Port) (markerReady : Bool)
  | boardQuery (port : Port)
  | override (port : Port)
  | partReset (port : Port)
  | lineConfig (port : Port)
  | lineStart (port : Port)
  | lineResume (port : Port)
  | lineReset (port : Port)
  | bankOpen (port : Port)
  | tableWindow (port : Port)
  | tableData (port : Port)
  | bankClose (port : Port)
  | tableRead (port : Port)
  | runStart (port : Port)
  | runEnd (port : Port)
  | runFree (port : Port)
  | tallyRead (port : Port)
  | logQuery (port : Port)
  | reclaimTrimmer (port : Port)
  | sawState (port : Port)
  | binState (port : Port)
  | headRetire (port : Port)
  | headRestore (port : Port)
  | headClear (port : Port)
  | noticeMask (port : Port)
  | reportSelect (port : Port)
  | drain (port : Port)
  | takeTrimmer (port : Port)
  | releaseTrimmer (port : Port)
  | manualPattern (port : Port)
  | attentionClear (port : Port)
  | portByteReceived (port : Port) (byte : Byte)
  | noValidStopBit (port : Port)
deriving DecidableEq, Repr

end Sys2Proof
end

