-- ==== Sys2Proof/WellFormed.lean ====
section
/-! DEFINITION. Which commands the world outside can send: the ranges of their operands. A command outside them has a
meaning all the same (log entry 1). -/

namespace Sys2Proof

/-- R26: a board head's number. -/
def headInRange (h : Nat) : Bool := decide (1 ≤ h) && decide (h ≤ Config.headCount)

/-- R68: an engine's number. -/
def engineInRange (e : Nat) : Bool := decide (1 ≤ e) && decide (e ≤ Config.engineCount)

/-- R180: a zone-link body's length is one byte. -/
def linkBodyFits (body : List Byte) : Bool := decide (body.length ≤ 255)

/-- R179: a port frame's body is at most 240 bytes. -/
def portBodyFits (body : List Byte) : Bool := decide (body.length ≤ Config.maxBody)

/-- R170: a request of the line port alone. -/
def onLine (p : Port) : Bool := p == .line

/-- R170: a request of the console port alone. -/
def onConsole (p : Port) : Bool := p == .console

/-- R180: an address that names a board head. -/
def boardSender (sender : Byte) : Bool := headInRange sender.toNat

/-- The operands of a command lie in their ranges, and a request comes on a port whose set holds it (R170). -/
def Instr.wellFormed : Instr → Bool
  | .powerOn => true
  | .resetPin => true
  | .lugEvent _ _ _ => true
  | .homePulse => true
  | .zoneLinkFrameDiscard _ => true
  | .zoneReport sender _ _ body => boardSender sender && linkBodyFits body
  | .calResult sender _ _ body => boardSender sender && linkBodyFits body
  | .logBegin _ _ body => linkBodyFits body
  | .logSamples _ _ body => linkBodyFits body
  | .logEnd _ _ body => linkBodyFits body
  | .evaluationComplete engine => engineInRange engine
  | .regradeComplete engine => engineInRange engine
  | .silenceTimerExpiry => true
  | .headCalDue head => headInRange head
  | .headStale head => headInRange head
  | .frameReceived _ _ _ body => portBodyFits body
  | .interByteGapTimeout _ => true
  | .frameSent _ => true
  | .partResetComplete => true
  | .unknownKind _ => true
  | .hello _ => true
  | .status _ _ => true
  | .boardQuery _ => true
  | .override _ => true
  | .partReset port => onLine port
  | .lineConfig port => onLine port
  | .lineStart port => onLine port
  | .lineResume port => onLine port
  | .lineReset port => onLine port
  | .bankOpen port => onLine port
  | .tableWindow port => onLine port
  | .tableData port => onLine port
  | .bankClose port => onLine port
  | .tableRead port => onLine port
  | .runStart port => onLine port
  | .runEnd port => onLine port
  | .runFree port => onLine port
  | .tallyRead port => onLine port
  | .logQuery port => onLine port
  | .reclaimTrimmer port => onLine port
  | .sawState port => onLine port
  | .binState port => onLine port
  | .headRetire port => onLine port
  | .headRestore port => onLine port
  | .headClear port => onLine port
  | .noticeMask port => onLine port
  | .reportSelect port => onLine port
  | .drain port => onLine port
  | .takeTrimmer port => onConsole port
  | .releaseTrimmer port => onConsole port
  | .manualPattern port => onConsole port
  | .attentionClear port => onConsole port
  | .portByteReceived _ _ => true
  | .noValidStopBit _ => true

end Sys2Proof
end

