-- ==== Sys2Proof/Decode.lean ====
section
/-! DEFINITION. How bits spell commands. spec/opcode_table.json gives no row any bits, so no word spells a command
(log entry 2). The spec does lay out the frames of the zone link (R180) and of the ports (R179): a zone-link frame is
read into its command here, total on any bytes, with the encoders after it. -/

namespace Sys2Proof

/-- No row of the table has bits, so no word spells a command. -/
def decodeTableWord (_nbits _w : Nat) : Option Instr := none

/-! ### Frames of the zone link (R17, R180) -/

/-- The header of a zone-link frame: sender, kind, serial, body length. -/
def linkHeader (sender kind : Byte) (serial : Tag) (n : Nat) : List Byte :=
  sender :: kind :: Machine.le2 serial.toNat ++ [Machine.byteOf n]

/-- R180: the header check covers bytes 0 to 4. -/
def headerOk (bytes : List Byte) : Bool :=
  decide (7 ≤ bytes.length) && (bytes.drop 5).take 2 == Machine.checkBytes (bytes.take 5)

/-- The body of a frame, as long as its header says. -/
def linkBody (bytes : List Byte) : List Byte := (bytes.drop 7).take (Machine.byteAt bytes 4)

/-- R17: the frame check covers header and body. A frame of another length than its header says fails it (log entry 12). -/
def frameCheckOk (bytes : List Byte) : Bool :=
  decide (bytes.length = 9 + Machine.byteAt bytes 4) &&
    bytes.drop (7 + Machine.byteAt bytes 4) == Machine.checkBytes (bytes.take 5 ++ linkBody bytes)

/-- R17, R180: a frame from a board head, by its kind. -/
def decodeBoardFrame (bytes : List Byte) (sender : Byte) (serial : Tag) : Instr :=
  if bytes.getD 1 0#8 = 0x11#8 then .zoneReport sender serial (frameCheckOk bytes) (linkBody bytes)
  else if bytes.getD 1 0#8 = 0x12#8 then .calResult sender serial (frameCheckOk bytes) (linkBody bytes)
  else .zoneLinkFrameDiscard bytes

/-- R37, R180: a frame from the log head, by its kind. -/
def decodeLogFrame (bytes : List Byte) (serial : Tag) : Instr :=
  if bytes.getD 1 0#8 = 0x21#8 then .logBegin serial (frameCheckOk bytes) (linkBody bytes)
  else if bytes.getD 1 0#8 = 0x22#8 then .logSamples serial (frameCheckOk bytes) (linkBody bytes)
  else if bytes.getD 1 0#8 = 0x23#8 then .logEnd serial (frameCheckOk bytes) (linkBody bytes)
  else .zoneLinkFrameDiscard bytes

/-- R17, R180: the command that a frame received on the zone link is. -/
def decodeLinkFrame (bytes : List Byte) : Instr :=
  let sender := bytes.getD 0 0#8
  let serial := Machine.tagAt bytes 2
  if !headerOk bytes then .zoneLinkFrameDiscard bytes
  else if boardSender sender then decodeBoardFrame bytes sender serial
  else if sender.toNat = Config.logHeadAddress then decodeLogFrame bytes serial
  else .zoneLinkFrameDiscard bytes

/-- R180: a whole zone-link frame. -/
def encodeLinkFrame (sender kind : Byte) (serial : Tag) (body : List Byte) : List Byte :=
  let header := linkHeader sender kind serial body.length
  header ++ Machine.checkBytes header ++ body ++ Machine.checkBytes (header ++ body)

/-- The address of the log head as a byte. -/
def logSender : Byte := 0x20#8

/-- The frame of a command of the zone link whose checks pass; none for every other command. -/
def encodeLink : Instr → Option (List Byte)
  | .zoneReport sender serial true body => some (encodeLinkFrame sender 0x11#8 serial body)
  | .calResult sender serial true body => some (encodeLinkFrame sender 0x12#8 serial body)
  | .logBegin serial true body => some (encodeLinkFrame logSender 0x21#8 serial body)
  | .logSamples serial true body => some (encodeLinkFrame logSender 0x22#8 serial body)
  | .logEnd serial true body => some (encodeLinkFrame logSender 0x23#8 serial body)
  | _ => none

/-! ### Frames of the ports (R166, R179) -/

/-- R179: a whole port frame. -/
def encodePortFrame (kind tag : Byte) (body : List Byte) : List Byte :=
  let covered := Machine.le2 body.length ++ [kind, tag] ++ body
  0xA5#8 :: covered ++ Machine.checkBytes covered

end Sys2Proof
end

