-- ==== Sys2Proof/Machine/State.lean ====
section
/-! DEFINITION. The state of the 7260 as plain data, block by block (00_scope.md section 3), and the state after
reset. Fields of the model's own are `pending`, `draws`, `outputs`, `tally.nextKey` and the run keys; every other
field is state that spec/ gives the part. -/

namespace Sys2Proof.Machine

/-! ### Records of the board path -/

/-- R21, coded by R186. -/
inductive DefectKind where
  | knot | hole | split | wane | stain | decay
deriving DecidableEq, Repr

/-- A defect item of a board record (R9, R21). Lengths are in mm; `faces` is a mask of TOP, BOTTOM, EDGE_NEAR, EDGE_FAR. -/
structure Defect where
  kind : DefectKind
  start : Nat
  stop : Nat
  size : Nat
  severity : Nat
  faces : BitVec 4
  source : Nat
deriving DecidableEq, Repr

/-- The quality of a zone's coverage (R22). -/
inductive ZoneMark where
  | good | stale | incomplete | blind | poison
deriving DecidableEq, Repr

/-- R11. -/
inductive BoardState where
  | scanning | queued | evaluating | decided | committed | cut
deriving DecidableEq, Repr

/-- The causes of a FALLBACK decision (R105). -/
inductive Cause where
  | tracking | poison | stopped | noRun | queueFull | late | noFit | sawOut
deriving DecidableEq, Repr

/-- The grade of a piece: an index 0 to 8, where 8 is REJECT, or UNGRADED (00_scope.md 6.4). -/
inductive Grade where
  | index (g : Nat)
  | ungraded
deriving DecidableEq, Repr

/-- R98. -/
inductive Source where
  | auto | console | host | manual
deriving DecidableEq, Repr

/-- The flags of a final decision (R105). -/
structure DecisionFlags where
  reduced : Bool
  capped : Bool
  overrideUnused : Bool
  noBank : Bool
  altBin : Bool
  binDefault : Bool
  truncated : Bool
deriving DecidableEq, Repr

/-- The advisory decision of a board record (R88; FALLBACK is written by the scan intake, R25). -/
inductive Advisory where
  | piece (i j grade value : Nat) (reduced capped : Bool)
  | waste (saws : SawSet) (reduced : Bool)
  | fallback (cause : Cause)
deriving DecidableEq, Repr

/-- What a decision does with a board (R92): the piece between saws i and j, WASTE with its saw set, PASS, FALLBACK. -/
inductive Chosen where
  | piece (i j : Nat) (grade : Grade)
  | waste (saws : SawSet)
  | pass
  | fallback (cause : Cause)
deriving DecidableEq, Repr

/-- The final decision of a board record (R105); pair, saw set, grade and length index follow from `what`. -/
structure FinalDecision where
  what : Chosen
  value : Nat
  source : Source
  bin : Option Nat
  flags : DecisionFlags
deriving DecidableEq, Repr

/-- The kind and operands of an override held in a record (R117, R118). -/
inductive OverrideKind where
  | setGrade (g : Nat)
  | setTrim (i j : Nat)
  | setBoth (i j g : Nat)
  | waste
  | pass
deriving DecidableEq, Repr

/-- R118. -/
inductive RegradeStatus where
  | none | pending | noRegrade
deriving DecidableEq, Repr

/-- The result of a completed regrade (R89). -/
structure RegradeResult where
  grade : Nat
  value : Nat
deriving DecidableEq, Repr

/-- The override field of a board record (R118). `fromPort` is the port on which it was accepted. -/
structure Override where
  kind : OverrideKind
  fromPort : Port
  status : RegradeStatus
  result : Option RegradeResult
  unused : Bool
deriving DecidableEq, Repr

/-- The outcome of a head for one open window (R18). -/
inductive HeadOutcome where
  | none | resendSent | good | poison
deriving DecidableEq, Repr

/-- What an assembly window holds for one head (R18). `present` and `endPos` are of the head's good report. -/
structure HeadView where
  expected : Bool
  outcome : HeadOutcome
  present : Bool
  endPos : Option Nat
  stale : Bool
  overflow : Bool
  truncated : Bool
deriving DecidableEq, Repr

/-- The outcome at the saw line (R134). -/
inductive CutOutcome where
  | normal | mismatch
deriving DecidableEq, Repr

/-- The sampled pattern of a board record (R134). -/
structure Sampled where
  saws : SawSet
  outcome : CutOutcome
deriving DecidableEq, Repr

/-- R50. -/
inductive BankName where
  | a | b
deriving DecidableEq, Repr

/-- A board record (R9). `window` is the assembly window, held while the record is SCANNING (R18): the views of heads
1 to 12 in order. `marks` are the zone marks, empty until assembly close. `stamp` holds character codes. -/
structure Board where
  tag : Tag
  state : BoardState
  run : Option Nat
  bank : Option BankName
  number : Option Nat
  length : Option Nat
  overlength : Bool
  defects : List Defect
  marks : List ZoneMark
  tracking : Bool
  advisory : Option Advisory
  override : Option Override
  decision : Option FinalDecision
  stamp : Option (List Byte)
  sampled : Option Sampled
  unmarked : Bool
  window : Option (List HeadView)
deriving DecidableEq, Repr

/-! ### Lug tracker -/

/-- R6: the eye's value with the serial it applies to. -/
structure EyeSample where
  loaded : Bool
  serial : Tag
deriving DecidableEq, Repr

/-- The lug tracker's state (R16). `ring` is in position order, earliest tag first (R15). -/
structure Tracker where
  serial : Tag
  homeCount : Nat
  synced : Bool
  eye : Option EyeSample
  ring : List Board
deriving DecidableEq, Repr

/-! ### Scan intake -/

/-- R26. -/
inductive HeadState where
  | absent | active | pendingCal | stale | retired
deriving DecidableEq, Repr

/-- A head table entry (R26). -/
structure Head where
  state : HeadState
  counter : Nat
  misses : Nat
  latch : Bool
  membership : Option Tag
deriving DecidableEq, Repr

/-- The outcome of a calibration (R30, R180). -/
inductive CalOutcome where
  | good | disturbed | failed
deriving DecidableEq, Repr

/-- A member of a calibration with its pending outcome, none being NONE (R28). -/
structure Member where
  head : Nat
  outcome : Option CalOutcome
deriving DecidableEq, Repr

/-- An open calibration (R28). `kept` is none until assembly for the serial has closed, and then whether the record
was kept (R29, R30). -/
structure Calibration where
  serial : Tag
  members : List Member
  kept : Option Bool
deriving DecidableEq, Repr

/-- The scan intake's state beside the windows in the records: the table of heads 1 to 12 in order, and the open
calibrations. -/
structure Intake where
  heads : List Head
  calibrations : List Calibration
deriving DecidableEq, Repr

/-! ### Log scaler -/

/-- The booking of a log (R39): the run record itself, by its key, with its id. -/
structure Booking where
  key : Nat
  id : Nat
deriving DecidableEq, Repr

/-- The log in progress (R38). -/
structure LogInProgress where
  booking : Option Booking
  samples : List Nat
  overlength : Bool
  suspect : Bool
deriving DecidableEq, Repr

/-- A log record (R47). -/
structure LogRecord where
  sequence : BitVec 32
  run : Option Nat
  length : Nat
  sed : Nat
  led : Nat
  litres : Nat
  suspect : Bool
  overlength : Bool
  unattributed : Bool
deriving DecidableEq, Repr

/-- The log scaler's state; `current` is none in IDLE (R38). -/
structure LogScaler where
  current : Option LogInProgress
  memory : List LogRecord
  nextSequence : BitVec 32
deriving DecidableEq, Repr

/-! ### Rule store -/

/-- R56. -/
inductive BankState where
  | empty | loading | loaded
deriving DecidableEq, Repr

/-- The nine tables of a bank (R50). -/
inductive Table where
  | limits | price | bins | altBins | names | labels | stamp | fallbackStamp | params
deriving DecidableEq, Repr

/-- A cell of a bank that does not read as the empty contents: its key and its value. -/
abbrev Cell := Nat × BitVec 16

/-- A bank: its state and its cells in canonical form (keys strictly rising, none reading as the empty contents). -/
structure Bank where
  state : BankState
  cells : List Cell
deriving DecidableEq, Repr

/-- R59. -/
inductive WindowOrder where
  | rows | columns
deriving DecidableEq, Repr

/-- R59. -/
inductive WindowOverflow where
  | ignore | wrap
deriving DecidableEq, Repr

/-- The load window with its cursor (R59). -/
structure LoadWindow where
  bank : BankName
  table : Table
  firstRow : Nat
  lastRow : Nat
  firstCol : Nat
  lastCol : Nat
  order : WindowOrder
  overflow : WindowOverflow
  row : Nat
  col : Nat
  exhausted : Bool
deriving DecidableEq, Repr

/-- The rule store's state (R65). -/
structure RuleStore where
  bankA : Bank
  bankB : Bank
  window : Option LoadWindow
deriving DecidableEq, Repr

/-! ### Grading unit -/

/-- An entry of the regrade list (R67). Its override is the one the record of `tag` holds (log entry 31). -/
structure RegradeEntry where
  tag : Tag
  i : Nat
  j : Nat
deriving DecidableEq, Repr

/-- A grading engine (R68). -/
inductive Engine where
  | idle
  | evaluating (tag : Tag) (snapshot : SawSet) (reduced : Bool)
  | regrading (tag : Tag) (i j : Nat) (withdrawn : Bool)
deriving DecidableEq, Repr

/-- The grading unit's state: engines 1 to 3 in order, the evaluation queue (R66) and the regrade list (R67). -/
structure Grading where
  engines : List Engine
  queue : List Tag
  regrades : List RegradeEntry
deriving DecidableEq, Repr

/-! ### Commit unit, trimmer control, outfeed unit -/

/-- An entry of the saw pattern queue (R106). -/
structure PatternEntry where
  tag : Tag
  saws : SawSet
  bin : Option Nat
deriving DecidableEq, Repr

/-- R108. -/
inductive ReleaseCause where
  | release | reclaim | consoleLost
deriving DecidableEq, Repr

/-- The ownership state, with the release cause in RELEASE_PENDING only (R108). -/
inductive Ownership where
  | auto
  | takePending
  | manual
  | releasePending (cause : ReleaseCause)
deriving DecidableEq, Repr

/-- The manual pattern (R108, R115). -/
inductive ManualPattern where
  | piece (i j : Nat) (grade : Grade)
  | waste
  | pass
deriving DecidableEq, Repr

/-- The attention reason set (R123). -/
structure Attention where
  calOverdue : Bool
  sawFault : Bool
  valueLoss : Bool
deriving DecidableEq, Repr

/-- The trimmer control's state; `timer` is none when the silence timer is stopped, else the milliseconds left. -/
structure Trimmer where
  ownership : Ownership
  pattern : ManualPattern
  timer : Option Nat
  attention : Attention
  valueLoss : Nat
deriving DecidableEq, Repr

/-- R127. -/
inductive SawState where
  | inService | out | faulted
deriving DecidableEq, Repr

/-- A saw state table entry (R127). -/
structure Saw where
  state : SawState
  mismatches : Nat
deriving DecidableEq, Repr

/-- The applied pattern (R129). -/
structure Applied where
  tag : Tag
  saws : SawSet
deriving DecidableEq, Repr

/-- The outfeed unit's state; bit b of `binFull` is set when bin b is in the bin-full set (R137). -/
structure Outfeed where
  saws : List Saw
  applied : Option Applied
  binCode : Nat
  binFull : BitVec 64
deriving DecidableEq, Repr

/-! ### Tally unit -/

/-- A tally counter with its saturation flag (R153). -/
structure Counter where
  value : Nat
  saturated : Bool
deriving DecidableEq, Repr

/-- R142. -/
inductive RunState where
  | pending | isOpen | closing | closed
deriving DecidableEq, Repr

/-- A run record (R141). `counters` are numbered as R188 numbers them: 0 to 107 the cells, 108 to 127 the OUTCOMES
counters in the order of R185, 128 scanned, 129 to 132 log count, log litres, debris and suspect. -/
structure Run where
  key : Nat
  id : Nat
  bank : BankName
  thickness : Nat
  width : Nat
  state : RunState
  startTag : Tag
  endTag : Option Tag
  counters : List Counter
deriving DecidableEq, Repr

/-- The unattributed figures (R153, R39). -/
structure Unattributed where
  scanned : Nat
  cut : Nat
  discarded : Nat
  logs : Nat
  litres : Nat
  debris : Nat
deriving DecidableEq, Repr

/-- The tally unit's state. `logRun` is the log station's run by its key (R148). -/
structure Tally where
  runs : List Run
  logRun : Option Nat
  nextKey : Nat
  unattributed : Unattributed
deriving DecidableEq, Repr

/-! ### Line control -/

/-- R156. -/
inductive LineState where
  | configuring | running | stopped
deriving DecidableEq, Repr

/-- The fifteen parameters of the line configuration (R157). -/
structure LineParams where
  hn : Nat
  zp : Nat
  sn : Nat
  sp : Nat
  so : Nat
  d : Nat
  h : Nat
  m : Nat
  aw : Nat
  hd : Nat
  k : Nat
  ci : Nat
  ol : Nat
  ct : Nat
  vm : Nat
deriving DecidableEq, Repr

/-- The fault latch (R160). -/
structure FaultLatch where
  lugSkip : Bool
  allHeadsLost : Bool
deriving DecidableEq, Repr

/-- Line control's state. `resetting` is set from the taking of a PART_RESET to the reset itself (R163). -/
structure LineControl where
  state : LineState
  config : LineParams
  latch : FaultLatch
  noticeMask : BitVec 9
  drain : Option Tag
  resetting : Bool
deriving DecidableEq, Repr

/-! ### Ports -/

/-- A port frame: its kind, its tag and its body (R179). -/
structure Frame where
  kind : Byte
  tag : Byte
  body : List Byte
deriving DecidableEq, Repr

/-- R166. -/
inductive RxState where
  | hunting | header | body | check
deriving DecidableEq, Repr

/-- A port's receiver (R166): its state, and the bytes of the frame in progress held since the start byte. -/
structure Receiver where
  state : RxState
  held : List Byte
deriving DecidableEq, Repr

/-- A port's state (R177); `outbound` is oldest first, and its first frame is the one being sent. -/
structure PortState where
  rx : Receiver
  inbound : Option Frame
  outbound : List Frame
  lost : Nat
  priorityLoss : Nat
  overrun : Nat
deriving DecidableEq, Repr

/-! ### Pins and outputs -/

/-- The levels of the input pins as they stood when a command last read them (log entry 6). -/
structure Pins where
  eyeLoaded : Bool
  feedback : SawSet
  markerReady : Bool
deriving DecidableEq, Repr

/-- What the part puts out as an event: the bytes of a frame on the zone link (R18, R20, R28, R180), a bin code with its
strobe (R136), a text sent to the marker (R138). -/
inductive Output where
  | link (frame : List Byte)
  | binStrobe (code : Nat)
  | marker (text : List Byte)
deriving DecidableEq, Repr

/-! ### The whole part -/

/-- The state of the 7260. `pending` is the queue of the commands that wait, first in, first out. `draws` counts the
free choices taken. `outputs` holds what the part has put out, oldest first. -/
structure State where
  tracker : Tracker
  intake : Intake
  logs : LogScaler
  rules : RuleStore
  grading : Grading
  patterns : List PatternEntry
  trimmer : Trimmer
  outfeed : Outfeed
  tally : Tally
  line : LineControl
  linePort : PortState
  consolePort : PortState
  selection : BitVec 3
  pins : Pins
  outputs : List Output
  draws : Nat
  pending : List Instr
deriving DecidableEq, Repr

/-- The reasons a command stops the machine with a fault: NONE. The spec names no condition after which the part takes
no further command, so the type has no constructor (what the spec calls an urgent fault is the latch of R160). -/
inductive Fault : Type
deriving DecidableEq, Repr

/-- The reasons a command is refused. -/
inductive Refusal where
  /-- Raised by an arm of exec whose command has no meaning yet; safe. No arm raises it. -/
  | notModelled (mnemonic : String)
deriving DecidableEq, Repr

/-! ### Values after power-on, the RESET pin and PART_RESET -/

/-- R157: the power-on values. -/
def powerOnParams : LineParams :=
  { hn := 0, zp := 610, sn := 0, sp := 610, so := 30, d := 20, h := 4, m := 2, aw := 2, hd := 2, k := 0,
    ci := 2000, ol := 200, ct := 3000, vm := 500 }

/-- R26: a head table entry after power-on. -/
def absentHead : Head := { state := .absent, counter := 0, misses := 0, latch := false, membership := none }

/-- R140: a saw state table entry after power-on. -/
def freshSaw : Saw := { state := .inService, mismatches := 0 }

/-- R50: a bank after power-on; no listed cell, so every cell reads as the empty contents. -/
def emptyBank : Bank := { state := .empty, cells := [] }

/-- R177: a port after power-on. -/
def freshPort : PortState :=
  { rx := { state := .hunting, held := [] }, inbound := none, outbound := [], lost := 0, priorityLoss := 0, overrun := 0 }

/-- R153. -/
def zeroFigures : Unattributed := { scanned := 0, cut := 0, discarded := 0, logs := 0, litres := 0, debris := 0 }

/-- The machine right after power-on (R163 and the reset tables it gathers). The pins are low and `draws` is 0 by
DESIGN CHOICE (log entries 6 and 22). -/
def State.reset : State :=
  { tracker := { serial := 0#16, homeCount := 0, synced := false, eye := none, ring := [] }
    intake := { heads := List.replicate Config.headCount absentHead, calibrations := [] }
    logs := { current := none, memory := [], nextSequence := 0#32 }
    rules := { bankA := emptyBank, bankB := emptyBank, window := none }
    grading := { engines := List.replicate Config.engineCount .idle, queue := [], regrades := [] }
    patterns := []
    trimmer :=
      { ownership := .auto, pattern := .pass, timer := none,
        attention := { calOverdue := false, sawFault := false, valueLoss := false }, valueLoss := 0 }
    outfeed :=
      { saws := List.replicate Config.sawCount freshSaw, applied := none, binCode := 0, binFull := 0#64 }
    tally := { runs := [], logRun := none, nextKey := 0, unattributed := zeroFigures }
    line :=
      { state := .configuring, config := powerOnParams, latch := { lugSkip := false, allHeadsLost := false },
        noticeMask := 0x1FF#9, drain := none, resetting := false }
    linePort := freshPort
    consolePort := freshPort
    selection := 7#3
    pins := { eyeLoaded := false, feedback := 0#13, markerReady := false }
    outputs := []
    draws := 0
    pending := [] }

end Sys2Proof.Machine
end

