-- ==== Sys2Proof/Machine/Codes.lean ====
section
/-! DEFINITION. The numeric codes of Chapter 12: R179 (kinds and results) and R186 (named fields and masks). -/

namespace Sys2Proof.Machine

/-- The mask of a list of flags, the first being bit 0 (R178). -/
def maskOf : List Bool → Nat
  | [] => 0
  | b :: bs => (if b then 1 else 0) + 2 * maskOf bs

/-- The result codes of R169 in the order R179 numbers them. -/
inductive Result where
  | ok | badFormat | badState | outOfRange | notFound | notReady | tooLate | notOwner | bankInUse | invalid
  | duplicate | runTableFull | busy | unknownKind
deriving DecidableEq, Repr

def resultCode : Result → Byte
  | .ok => 0x00#8 | .badFormat => 0x01#8 | .badState => 0x02#8 | .outOfRange => 0x03#8 | .notFound => 0x04#8
  | .notReady => 0x05#8 | .tooLate => 0x06#8 | .notOwner => 0x07#8 | .bankInUse => 0x08#8 | .invalid => 0x09#8
  | .duplicate => 0x0A#8 | .runTableFull => 0x0B#8 | .busy => 0x0C#8 | .unknownKind => 0x0D#8

/-- R186, and the codes of the other named fields below. -/
def defectKindOf : Nat → Option DefectKind
  | 0 => some .knot | 1 => some .hole | 2 => some .split | 3 => some .wane | 4 => some .stain | 5 => some .decay
  | _ => none

def defectKindCode : DefectKind → Nat
  | .knot => 0 | .hole => 1 | .split => 2 | .wane => 3 | .stain => 4 | .decay => 5

def zoneMarkCode : ZoneMark → Nat
  | .good => 0 | .stale => 1 | .incomplete => 2 | .blind => 3 | .poison => 4

def boardStateCode : BoardState → Nat
  | .scanning => 0 | .queued => 1 | .evaluating => 2 | .decided => 3 | .committed => 4 | .cut => 5

def causeCode : Cause → Nat
  | .tracking => 1 | .poison => 2 | .stopped => 3 | .noRun => 4 | .queueFull => 5 | .late => 6 | .noFit => 7 | .sawOut => 8

/-- A grade's code: 0-7 G0-G7, 8 REJECT, 9 UNGRADED. -/
def gradeCode : Grade → Nat
  | .index g => g
  | .ungraded => 9

/-- The grade of a code up to 9. -/
def gradeOf (n : Nat) : Grade := if n = 9 then .ungraded else .index n

def sourceCode : Source → Nat
  | .auto => 0 | .console => 1 | .host => 2 | .manual => 3

def chosenCode : Chosen → Nat
  | .piece .. => 0 | .waste .. => 1 | .pass => 2 | .fallback .. => 3

def decisionFlagsMask (f : DecisionFlags) : Nat :=
  maskOf [f.reduced, f.capped, f.overrideUnused, f.noBank, f.altBin, f.binDefault, f.truncated]

def overrideCode : OverrideKind → Nat
  | .setGrade .. => 0 | .setTrim .. => 1 | .setBoth .. => 2 | .waste => 3 | .pass => 4

def overridePortCode : Port → Nat
  | .line => 0 | .console => 1

def regradeStatusCode : RegradeStatus → Nat
  | .none => 0 | .pending => 1 | .noRegrade => 2

/-- The kinds of frame the part sends on the zone link (R180). -/
inductive LinkKind where
  | lugMark | calibrate | resend
deriving DecidableEq, Repr

/-- R180. -/
def linkKindCode : LinkKind → Byte
  | .lugMark => 0x01#8 | .calibrate => 0x02#8 | .resend => 0x03#8

def lineStateCode : LineState → Nat
  | .configuring => 0 | .running => 1 | .stopped => 2

/-- The fault latch as a mask: LUG_SKIP, ALL_HEADS_LOST. -/
def latchMask (l : FaultLatch) : Nat := maskOf [l.lugSkip, l.allHeadsLost]

def headStateCode : HeadState → Nat
  | .absent => 0 | .active => 1 | .pendingCal => 2 | .stale => 3 | .retired => 4

def sawStateCode : SawState → Nat
  | .inService => 0 | .out => 1 | .faulted => 2

def bankCode : BankName → Nat
  | .a => 0 | .b => 1

def bankOf : Nat → Option BankName
  | 0 => some .a | 1 => some .b | _ => none

def bankStateCode : BankState → Nat
  | .empty => 0 | .loading => 1 | .loaded => 2

def tableCode : Table → Nat
  | .limits => 0 | .price => 1 | .bins => 2 | .altBins => 3 | .names => 4 | .labels => 5 | .stamp => 6
  | .fallbackStamp => 7 | .params => 8

def tableOf : Nat → Option Table
  | 0 => some .limits | 1 => some .price | 2 => some .bins | 3 => some .altBins | 4 => some .names
  | 5 => some .labels | 6 => some .stamp | 7 => some .fallbackStamp | 8 => some .params | _ => none

def orderCode : WindowOrder → Nat
  | .rows => 0 | .columns => 1

def orderOf : Nat → Option WindowOrder
  | 0 => some .rows | 1 => some .columns | _ => none

def overflowCode : WindowOverflow → Nat
  | .ignore => 0 | .wrap => 1

def overflowOf : Nat → Option WindowOverflow
  | 0 => some .ignore | 1 => some .wrap | _ => none

def runStateCode : RunState → Nat
  | .pending => 0 | .isOpen => 1 | .closing => 2 | .closed => 3

def ownershipCode : Ownership → Nat
  | .auto => 0 | .takePending => 1 | .manual => 2 | .releasePending .. => 3

def releaseCauseCode : ReleaseCause → Nat
  | .release => 0 | .reclaim => 1 | .consoleLost => 2

def attentionMask (a : Attention) : Nat := maskOf [a.calOverdue, a.sawFault, a.valueLoss]

/-- The log flags as a mask: SUSPECT, OVERLENGTH, UNATTRIBUTED. -/
def logFlagsMask (suspect overlength unattributed : Bool) : Nat := maskOf [suspect, overlength, unattributed]

def cutOutcomeCode : CutOutcome → Nat
  | .normal => 0 | .mismatch => 1

def portCode : Port → Nat
  | .line => 0 | .console => 1

/-- The causes of an OWNER report (R112). -/
inductive OwnerCause where
  | take | release | reclaim | resolved | consoleLost | lineReset
deriving DecidableEq, Repr

def ownerCauseCode : OwnerCause → Nat
  | .take => 0 | .release => 1 | .reclaim => 2 | .resolved => 3 | .consoleLost => 4 | .lineReset => 5

/-- The urgent faults (R160). -/
inductive UrgentFault where
  | lugSkip | allHeadsLost
deriving DecidableEq, Repr

def urgentFaultCode : UrgentFault → Nat
  | .lugSkip => 0 | .allHeadsLost => 1

/-- The causes of a RUN_CLOSED report (R146). -/
inductive CloseCause where
  | lug | lineReset
deriving DecidableEq, Repr

def closeCauseCode : CloseCause → Nat
  | .lug => 0 | .lineReset => 1

/-- The status of a DRAIN_DONE report (R165). -/
inductive DrainStatus where
  | complete | aborted
deriving DecidableEq, Repr

def drainStatusCode : DrainStatus → Nat
  | .complete => 0 | .aborted => 1

/-- The occasions of a BOARD_VIEW report (R183). -/
inductive Occasion where
  | evaluation | regrade | commit
deriving DecidableEq, Repr

def occasionCode : Occasion → Nat
  | .evaluation => 0 | .regrade => 1 | .commit => 2

/-- The notices of R164 with their operands. -/
inductive Notice where
  | headRetired (head : Nat)
  | headStale (head : Nat)
  | headPoison (head : Nat) (tag : Tag)
  | lateFallback (tag : Tag)
  | queueFull (tag : Tag)
  | sawFault (saw : Nat) (tag : Option Tag)
  | tallySaturated (run counter : Nat)
  | logSuspect (sequence : BitVec 32)
  | stampTruncated (tag : Tag)
deriving DecidableEq, Repr

/-- A notice's place in the notices mask, which is also its code (R186). -/
def noticeCode : Notice → Nat
  | .headRetired .. => 0 | .headStale .. => 1 | .headPoison .. => 2 | .lateFallback .. => 3 | .queueFull .. => 4
  | .sawFault .. => 5 | .tallySaturated .. => 6 | .logSuspect .. => 7 | .stampTruncated .. => 8

end Sys2Proof.Machine
end

