-- ==== Sys2Proof/Machine/Cells.lean ====
section
/-! DEFINITION. The cells of a bank (R50): how a cell is named, what an unlisted cell reads as, reading and writing
in canonical form, and the texts that rows of characters give (R53). -/

namespace Sys2Proof.Machine

/-- The first and last row of a table (R50). -/
def tableRows : Table → Nat × Nat
  | .limits => (0, 7) | .price => (0, 8) | .bins => (0, 8) | .altBins => (0, 0) | .names => (0, 8)
  | .labels => (1, 12) | .stamp => (0, 15) | .fallbackStamp => (0, 0) | .params => (0, 0)

/-- The first and last column of a table (R50). -/
def tableCols : Table → Nat × Nat
  | .limits => (0, 29) | .price => (1, 12) | .bins => (1, 12) | .altBins => (0, 63) | .names => (0, 3)
  | .labels => (0, 2) | .stamp => (0, 1) | .fallbackStamp => (0, 11) | .params => (0, 3)

/-- The range of a cell of a table in a column (R50, R51). -/
def cellRange (t : Table) (col : Nat) : Nat × Nat :=
  match t with
  | .limits => (0, [400, 15, 8000, 15, 99].getD (col % 5) 0)
  | .price => (0, 65535)
  | .bins => (0, 63)
  | .altBins => (0, 63)
  | .names => (0x20, 0x7E)
  | .labels => (0x20, 0x7E)
  | .stamp => (0, 255)
  | .fallbackStamp => (0x20, 0x7E)
  | .params => [(1, 8), (0, 8), (0, 8), (1, 12)].getD col (0, 0)

/-- The key of a cell: its table's code, its row and its column, so that keys rise in row-major order. -/
def cellKey (t : Table) (row col : Nat) : Nat := tableCode t * 65536 + row * 256 + col

/-- What an unlisted cell reads as: the empty contents of R50, a space in the character tables and 0 in the others. -/
def emptyValue (key : Nat) : BitVec 16 :=
  if key / 65536 = 4 ∨ key / 65536 = 5 ∨ key / 65536 = 7 then 0x20#16 else 0#16

/-- The listed value of a key. -/
def lookupCell : List Cell → Nat → Option (BitVec 16)
  | [], _ => none
  | c :: cs, key => if c.1 = key then some c.2 else lookupCell cs key

/-- Reading one cell. -/
def readCell (cells : List Cell) (key : Nat) : BitVec 16 := (lookupCell cells key).getD (emptyValue key)

/-- A key's value put in its place among rising keys. -/
def insertCell : List Cell → Nat → BitVec 16 → List Cell
  | [], key, v => [(key, v)]
  | c :: cs, key, v =>
    if key < c.1 then (key, v) :: c :: cs
    else if key = c.1 then (key, v) :: cs
    else c :: insertCell cs key v

/-- Writing one cell, in canonical form: the value an unlisted cell reads as is not listed. -/
def writeCell (cells : List Cell) (key : Nat) (v : BitVec 16) : List Cell :=
  if v = emptyValue key then cells.filter (fun c => c.1 ≠ key) else insertCell cells key v

/-- The canonical form: keys strictly rising, and no listed cell equal to what an unlisted one reads as. -/
abbrev cellsWf (cells : List Cell) : Prop :=
  cells.Pairwise (fun x y => x.1 < y.1) ∧ ∀ c ∈ cells, c.2 ≠ emptyValue c.1

/-- The value of a cell of a bank, as a number: PRICE[g][n] and the like (R50). -/
def cellValue (b : Bank) (t : Table) (row col : Nat) : Nat := (readCell b.cells (cellKey t row col)).toNat

/-- Characters with the trailing spaces removed (R53). -/
def trimSpaces (text : List Byte) : List Byte := (text.reverse.dropWhile (fun c => c = 0x20#8)).reverse

/-- The text a row of a character table gives (R53). -/
def rowText (b : Bank) (t : Table) (row : Nat) : List Byte :=
  trimSpaces ((List.range ((tableCols t).2 + 1)).map fun col => byteOf (cellValue b t row col))

/-- R55: the four figures of PARAMS. -/
def gradeCount (b : Bank) : Nat := cellValue b .params 0 0
def blindCap (b : Bank) : Nat := cellValue b .params 0 1
def staleCap (b : Bank) : Nat := cellValue b .params 0 2
def minLengthIndex (b : Bank) : Nat := cellValue b .params 0 3

end Sys2Proof.Machine
end

