-- ==== Sys2Proof/Machine/Ops.lean ====
section
/-! DEFINITION. The named operations over the state that the meanings share: the ports' outbound queues (R171), the
reports and notices (R164, R172), the board ring (R15), heads and saws by number, banks, free orders. -/

namespace Sys2Proof.Machine

/-! ### Configuration -/

/-- The line configuration in force (R157). -/
def State.config (s : State) : LineParams := s.line.config

/-- The position of saw k (R77): s(k) = SO + k·SP. -/
def sawPosition (c : LineParams) (k : Nat) : Nat := c.so + k * c.sp

/-- D − H as a distance of serials (R91). -/
def horizonDistance (c : LineParams) : Tag := BitVec.ofNat 16 c.d - BitVec.ofNat 16 c.h

/-- Lug events are taken in RUNNING and STOPPED (R1), and not while a PART_RESET completes (R163). -/
def State.takesLugs (s : State) : Bool := s.line.state != .configuring && !s.line.resetting

/-- The line-stop output: asserted exactly while the latch holds a fault (R160). -/
def State.lineStop (s : State) : Bool := s.line.latch.lugSkip || s.line.latch.allHeadsLost

/-! ### Sets of saws -/

/-- Whether saw k is in a set. -/
def hasSaw (set : SawSet) (k : Nat) : Bool := set.getLsbD k

/-- The set of the saws below `n` for which `p` holds. -/
def sawsWhere (n : Nat) (p : Nat → Bool) : SawSet :=
  ((List.range n).filter p).foldl (fun acc k => acc ||| BitVec.twoPow 13 k) 0#13

/-- The members of a set, in saw order. -/
def sawList (set : SawSet) : List Nat := (List.range Config.sawCount).filter (hasSaw set)

/-- A set's mask in two bytes (R178). -/
def sawBytes (set : SawSet) : List Byte := le2 set.toNat

/-- The drop outputs (R129): down for each saw of the applied set below SN. -/
def State.dropOutputs (s : State) : SawSet :=
  match s.outfeed.applied with
  | none => 0#13
  | some a => sawsWhere s.config.sn (hasSaw a.saws)

/-! ### Ports and their outbound queues -/

def State.port (s : State) : Port → PortState
  | .line => s.linePort
  | .console => s.consolePort

def State.setPort (s : State) (p : Port) (q : PortState) : State :=
  match p with
  | .line => { s with linePort := q }
  | .console => { s with consolePort := q }

/-- R171: the places of a port's outbound queue, and how many of them are reserved. -/
def places : Port → Nat
  | .line => Config.linePlaces
  | .console => Config.consolePlaces

def reservedPlaces : Port → Nat
  | .line => Config.lineReserved
  | .console => Config.consoleReserved

/-- R171: the informational frames are DECISION, DISPATCH, BOARD_VIEW and LOG_SCALED. -/
def Frame.informational (f : Frame) : Bool := f.kind = 0x40#8 || f.kind = 0x41#8 || f.kind = 0x42#8 || f.kind = 0x43#8

/-- The frames less the newest informational one, or none when they hold none. -/
def dropNewestInfo : List Frame → Option (List Frame)
  | [] => none
  | f :: fs =>
    match dropNewestInfo fs with
    | some rest => some (f :: rest)
    | none => if f.informational then some fs else none

/-- A frame offered to an outbound queue of `n` places with `r` reserved (R171). The first frame has begun to be sent
(log entry 8), so a priority frame displaces among the others only. -/
def PortState.offer (q : PortState) (n r : Nat) (f : Frame) : PortState :=
  if f.informational then
    if q.outbound.length < n - r then { q with outbound := q.outbound ++ [f] }
    else { q with lost := satAdd Config.max32 q.lost 1 }
  else if q.outbound.length < n then { q with outbound := q.outbound ++ [f] }
  else
    match dropNewestInfo (q.outbound.drop 1) with
    | some rest =>
      { q with outbound := q.outbound.take 1 ++ rest ++ [f], lost := satAdd Config.max32 q.lost 1 }
    | none => { q with priorityLoss := satAdd Config.max16 q.priorityLoss 1 }

/-- A report offered to a port; while a PART_RESET completes no report is offered to either queue (R163). -/
def State.offer (s : State) (p : Port) (kind : Byte) (body : List Byte) : State :=
  if s.line.resetting then s
  else s.setPort p ((s.port p).offer (places p) (reservedPlaces p) { kind := kind, tag := 0#8, body := body })

/-- The reply placed in the place claimed for it (R168, R171). -/
def State.pushReply (s : State) (p : Port) (f : Frame) : State :=
  s.setPort p { s.port p with outbound := (s.port p).outbound ++ [f] }

/-- A frame or signal put out (log entry 7). -/
def State.emit (s : State) (o : Output) : State := { s with outputs := s.outputs ++ [o] }

/-! ### Notices and priority reports -/

/-- The four operand bytes of a NOTICE report, 0xFF where not used (R188). -/
def noticeOperands : Notice → List Byte
  | .headRetired h => [byteOf h, absentByte, absentByte, absentByte]
  | .headStale h => [byteOf h, absentByte, absentByte, absentByte]
  | .headPoison h t => byteOf h :: le2 t.toNat ++ [absentByte]
  | .lateFallback t => le2 t.toNat ++ [absentByte, absentByte]
  | .queueFull t => le2 t.toNat ++ [absentByte, absentByte]
  | .sawFault k (some t) => byteOf k :: le2 t.toNat ++ [flagByte true]
  | .sawFault k none => [byteOf k, absentByte, absentByte, flagByte false]
  | .tallySaturated run k => le2 run ++ [byteOf k, absentByte]
  | .logSuspect q => le4 q.toNat
  | .stampTruncated t => le2 t.toNat ++ [absentByte, absentByte]

/-- A notice raised: its NOTICE report goes to the line port when its kind is in the mask (R164). -/
def State.notice (s : State) (n : Notice) : State :=
  if s.line.noticeMask.getLsbD (noticeCode n) then
    s.offer .line 0x48#8 (byteOf (noticeCode n) :: noticeOperands n)
  else s

/-- An urgent fault raised with line control (R160). -/
def State.raiseFault (s : State) (f : UrgentFault) : State :=
  let latch : FaultLatch :=
    match f with
    | .lugSkip => { s.line.latch with lugSkip := true }
    | .allHeadsLost => { s.line.latch with allHeadsLost := true }
  let s1 := { s with line := { s.line with latch := latch, state := .stopped } }
  let body := byteOf (urgentFaultCode f) :: le2 s1.tracker.serial.toNat ++ [byteOf (latchMask latch)]
  (s1.offer .line 0x49#8 body).offer .console 0x49#8 body

/-- The OWNER report to both ports (R112, R188). -/
def State.reportOwner (s : State) (cause : OwnerCause) (first : Tag) : State :=
  let body := [byteOf (ownershipCode s.trimmer.ownership), byteOf (ownerCauseCode cause)] ++ le2 first.toNat
  (s.offer .line 0x4A#8 body).offer .console 0x4A#8 body

/-- The first lug tag of an OWNER report for a change made between lug events (R112). -/
def State.nextHorizonTag (s : State) : Tag := s.tracker.serial + 1#16 - horizonDistance s.config

/-- The tag of the lug at the horizon (R91). -/
def State.horizonTag (s : State) : Tag := s.tracker.serial - horizonDistance s.config

/-- The ATTENTION report to the console port (R123, R188). -/
def State.reportAttention (s : State) : State :=
  s.offer .console 0x4B#8
    (byteOf (attentionMask s.trimmer.attention) :: le4 s.trimmer.valueLoss ++ le2 s.config.vm)

/-- The DRAIN_DONE report to the line port (R165, R188). -/
def State.reportDrainDone (s : State) (status : DrainStatus) (serial : Tag) : State :=
  s.offer .line 0x4D#8 (byteOf (drainStatusCode status) :: le2 serial.toNat)

/-! ### Free orders -/

/-- The orders in which equals are treated at one moment (log entry 5). -/
def State.shuffle {α : Type} (s : State) (l : List α) : List α × State :=
  (permuteBy (Config.headOrder s.draws) l, { s with draws := s.draws + 1 })

/-! ### The board ring -/

/-- The position of a tag (R7). -/
def State.position (s : State) (t : Tag) : Nat := (s.tracker.serial - t).toNat

/-- The record a tag names, if any (R15). -/
def State.findBoard (s : State) (t : Tag) : Option Board := s.tracker.ring.find? (fun b => b.tag = t)

/-- The tag at a position (R7). -/
def State.tagAtPosition (s : State) (p : Nat) : Tag := s.tracker.serial - BitVec.ofNat 16 p

def State.setRing (s : State) (ring : List Board) : State := { s with tracker := { s.tracker with ring := ring } }

/-- The record of a tag changed. -/
def State.mapBoard (s : State) (t : Tag) (f : Board → Board) : State :=
  s.setRing (s.tracker.ring.map fun b => if b.tag = t then f b else b)

/-- R165: whether a record is covered by a drain. -/
def State.coveredBy (s : State) (drainSerial : Tag) (b : Board) : Bool :=
  (s.tracker.serial - drainSerial).toNat ≤ s.position b.tag

/-- The test of an outstanding drain (R165). -/
def State.testDrain (s : State) : State :=
  match s.line.drain with
  | none => s
  | some d =>
    if s.tracker.ring.any (s.coveredBy d) then s
    else { s with line := { s.line with drain := none } }.reportDrainDone .complete d

/-- A record leaves the ring, dropped (R13) or retired (R14), and the drain is tested. -/
def State.removeBoard (s : State) (t : Tag) : State :=
  (s.setRing (s.tracker.ring.filter fun b => b.tag ≠ t)).testDrain

/-! ### Heads, saws, banks -/

/-- The entry of head h, 1 to 12; ABSENT for any other number. -/
def State.head (s : State) (h : Nat) : Head := if h = 0 then absentHead else s.intake.heads.getD (h - 1) absentHead

def State.mapHead (s : State) (h : Nat) (f : Head → Head) : State :=
  if h = 0 then s
  else { s with intake := { s.intake with heads := s.intake.heads.modify (h - 1) f } }

/-- Heads 1 to HN. -/
def State.headNumbers (s : State) : List Nat := (List.range s.config.hn).map (· + 1)

/-- Whether every head 1 to HN is RETIRED (R32). -/
def State.allRetired (s : State) : Bool := s.headNumbers.all fun h => (s.head h).state == .retired

/-- The entry of saw k. -/
def State.saw (s : State) (k : Nat) : Saw := s.outfeed.saws.getD k freshSaw

def State.mapSaw (s : State) (k : Nat) (f : Saw → Saw) : State :=
  { s with outfeed := { s.outfeed with saws := s.outfeed.saws.modify k f } }

/-- A saw of the configured line in state IN; a saw numbered SN or above counts as not IN (R97). -/
def State.sawIn (s : State) (k : Nat) : Bool := decide (k < s.config.sn) && (s.saw k).state == .inService

def State.bank (s : State) : BankName → Bank
  | .a => s.rules.bankA
  | .b => s.rules.bankB

def State.setBank (s : State) (n : BankName) (b : Bank) : State :=
  match n with
  | .a => { s with rules := { s.rules with bankA := b } }
  | .b => { s with rules := { s.rules with bankB := b } }

/-- The run record of an id (R141). -/
def State.findRun (s : State) (id : Nat) : Option Run := s.tally.runs.find? (fun r => r.id = id)

def State.setRuns (s : State) (runs : List Run) : State := { s with tally := { s.tally with runs := runs } }

/-- The run OPEN at the board line (R10). -/
def State.openRun (s : State) : Option Run := s.tally.runs.find? (fun r => r.state == .isOpen)

/-- The PENDING run (R141). -/
def State.pendingRun (s : State) : Option Run := s.tally.runs.find? (fun r => r.state == .pending)

/-- R57: whether a bank is in use. -/
def State.bankInUse (s : State) (n : BankName) : Bool :=
  s.tally.runs.any fun r => r.bank == n && r.state != .closed

end Sys2Proof.Machine
end

