-- ==== Sys2Proof/Machine/Flags.lean ====
section
/-! DEFINITION. The part's flags: the attention reason set (R123 to R125), the counters' saturation flags (R153), and
the flags of final decisions. -/

namespace Sys2Proof.Machine

/-- The attention reason set becomes `a`; a change sends an ATTENTION report (R123). -/
def State.setAttention (s : State) (a : Attention) : State :=
  if a = s.trimmer.attention then s
  else { s with trimmer := { s.trimmer with attention := a } }.reportAttention

/-- CAL_OVERDUE and SAW_FAULT brought up to date with the head and saw tables (R123). -/
def State.refreshAttention (s : State) : State :=
  s.setAttention
    { s.trimmer.attention with
      calOverdue := s.intake.heads.any (fun h => h.state == .stale)
      sawFault := s.outfeed.saws.any (fun w => w.state == .faulted) }

/-- The value-loss sum set to 0 and VALUE_LOSS removed from the set (R111, R125). -/
def State.clearValueLoss (s : State) : State :=
  { s with trimmer := { s.trimmer with valueLoss := 0 } }.setAttention { s.trimmer.attention with valueLoss := false }

/-- Value-loss accounting of one MANUAL-source commit (R124). -/
def State.accountLoss (s : State) (advisory : Option Advisory) (committed : Nat) : State :=
  match advisory with
  | some (.piece _ _ _ value _ _) =>
    let s1 :=
      { s with trimmer := { s.trimmer with valueLoss := satAdd Config.max32 s.trimmer.valueLoss (value - committed) } }
    if 0 < s1.config.vm ∧ s1.config.vm ≤ s1.trimmer.valueLoss then
      s1.setAttention { s1.trimmer.attention with valueLoss := true }
    else s1
  | _ => s

/-- No flag of a final decision set. -/
def noFlags : DecisionFlags :=
  { reduced := false, capped := false, overrideUnused := false, noBank := false, altBin := false,
    binDefault := false, truncated := false }

/-- An addition to a tally counter with its maximum (R153): at or past the maximum the flag is set. -/
def Counter.add (c : Counter) (top n : Nat) : Counter :=
  if c.value + n < top then { c with value := c.value + n } else { value := top, saturated := true }

/-- The numbers of the run counters (R188, in the order of R185). -/
def cellCounter (grade lengthIndex : Nat) : Nat := 12 * grade + lengthIndex - 1
def pieceGradedCounter : Nat := 108
def pieceUngradedCounter : Nat := 109
def wasteCounter : Nat := 110
def passCounter : Nat := 111
def mismatchCounter : Nat := 119
def discardedCounter : Nat := 120
def reducedCounter : Nat := 125
def valueSumCounter : Nat := 126
def lengthSumCounter : Nat := 127
def scannedCounter : Nat := 128
def logCountCounter : Nat := 129
def logLitresCounter : Nat := 130
def debrisCounter : Nat := 131
def suspectCounter : Nat := 132

/-- How many counters a run holds. -/
def counterCount : Nat := 133

/-- The counter of a FALLBACK cause; NO_RUN has none in a run (section 9.4). -/
def fallbackCounter : Cause → Option Nat
  | .late => some 112 | .poison => some 113 | .queueFull => some 114 | .stopped => some 115 | .sawOut => some 116
  | .tracking => some 117 | .noFit => some 118 | .noRun => none

/-- The counter of a source (R150). -/
def sourceCounter : Source → Nat
  | .auto => 121 | .console => 122 | .host => 123 | .manual => 124

/-- A counter's maximum: 16 bits for a cell, 32 bits for the others (section 9.4). -/
def counterTop (k : Nat) : Nat := if k < 108 then Config.max16 else Config.max32

/-- Counter k of a run. -/
def Run.counter (r : Run) (k : Nat) : Counter := r.counters.getD k { value := 0, saturated := false }

/-- An addition to counter k of the run of an id, with its TALLY_SATURATED notice when the flag goes from clear to
set (R153). -/
def State.count (s : State) (id k n : Nat) : State :=
  match s.findRun id with
  | none => s
  | some r =>
    let c := (r.counter k).add (counterTop k) n
    let s1 := s.setRuns (s.tally.runs.map fun q => if q.id = id then { q with counters := q.counters.set k c } else q)
    if c.saturated && !(r.counter k).saturated then s1.notice (.tallySaturated id k) else s1

/-- A change of the unattributed figures (R153). -/
def State.mapFigures (s : State) (f : Unattributed → Unattributed) : State :=
  { s with tally := { s.tally with unattributed := f s.tally.unattributed } }

end Sys2Proof.Machine
end

