-- ==== Sys2Proof/Machine/Operands.lean ====
section
/-! DEFINITION. The operand forms: how the body of a zone-link frame (R180) or of a request (R182, R184, R185, R187)
is read, and which bodies do not fit their kind. A form that answers none is BAD_FORMAT or corrupt. -/

namespace Sys2Proof.Machine

/-! ### Zone link -/

/-- An item of a ZONE_REPORT as sent; `kind` is its raw code (R180). -/
structure ZoneItem where
  kind : Nat
  start : Nat
  stop : Nat
  size : Nat
  severity : Nat
  faces : BitVec 4
deriving DecidableEq, Repr

/-- The body of a ZONE_REPORT (R180). -/
structure ZoneBody where
  present : Bool
  endPos : Option Nat
  truncated : Bool
  items : List ZoneItem
deriving DecidableEq, Repr

/-- The item at byte k of a ZONE_REPORT body; bits 4 to 7 of the faces byte are ignored (R178). -/
def zoneItemAt (body : List Byte) (k : Nat) : ZoneItem :=
  { kind := byteAt body k, start := halfAt body (k + 1), stop := halfAt body (k + 3), size := halfAt body (k + 5),
    severity := byteAt body (k + 7), faces := BitVec.ofNat 4 (byteAt body (k + 8)) }

/-- The body of a ZONE_REPORT; none when the report is corrupt by its contents (R17, R180). -/
def parseZoneReport (body : List Byte) : Option ZoneBody :=
  let n := byteAt body 4
  if body.length = 5 + 9 * n ∧ n ≤ Config.reportItems ∧ byteAt body 0 ≤ 1 ∧ byteAt body 3 ≤ 1 then
    some
      { present := byteAt body 0 == 1
        endPos := if halfAt body 1 = 0xFFFF then none else some (halfAt body 1)
        truncated := byteAt body 3 == 1
        items := (List.range n).map fun k => zoneItemAt body (5 + 9 * k) }
  else none

/-- The outcome byte of a CAL_RESULT; none when the frame is corrupt by its contents (R180). -/
def parseCalResult (body : List Byte) : Option CalOutcome :=
  match body with
  | [b] => if b = 0#8 then some .good else if b = 1#8 then some .disturbed else if b = 2#8 then some .failed else none
  | _ => none

/-- The diameters of a LOG_SAMPLES; none when the frame is corrupt by its contents (R37). -/
def parseLogSamples (body : List Byte) : Option (List Nat) :=
  let n := byteAt body 0
  if body.length = 1 + 2 * n ∧ 1 ≤ n ∧ n ≤ 20 then some ((List.range n).map fun k => halfAt body (1 + 2 * k)) else none

/-! ### Requests -/

/-- An OVERRIDE's kind with its operands, or CANCEL (R117, R182). -/
inductive OverrideForm where
  | place (kind : OverrideKind)
  | cancel
deriving DecidableEq, Repr

/-- The body of an OVERRIDE after its tag. A grade byte above 9 is BAD_FORMAT (R182). -/
def parseOverride (body : List Byte) : Option OverrideForm :=
  match byteAt body 2, body.length with
  | 0, 4 => if byteAt body 3 ≤ 9 then some (.place (.setGrade (byteAt body 3))) else none
  | 1, 5 => some (.place (.setTrim (byteAt body 3) (byteAt body 4)))
  | 2, 6 => if byteAt body 5 ≤ 9 then some (.place (.setBoth (byteAt body 3) (byteAt body 4) (byteAt body 5))) else none
  | 3, 3 => some (.place .waste)
  | 4, 3 => some (.place .pass)
  | 5, 3 => some .cancel
  | _, _ => none

/-- The body of a MANUAL_PATTERN (R115, R187). -/
def parsePattern (body : List Byte) : Option ManualPattern :=
  match byteAt body 0, body.length with
  | 0, 4 => if byteAt body 3 ≤ 9 then some (.piece (byteAt body 1) (byteAt body 2) (gradeOf (byteAt body 3))) else none
  | 1, 1 => some .waste
  | 2, 1 => some .pass
  | _, _ => none

/-- The body of a LINE_CONFIG (R182). -/
def parseConfig (body : List Byte) : Option LineParams :=
  if body.length = 23 then
    some
      { hn := byteAt body 0, zp := halfAt body 1, sn := byteAt body 3, sp := halfAt body 4, so := halfAt body 6
        d := byteAt body 8, h := byteAt body 9, m := byteAt body 10, aw := byteAt body 11, hd := byteAt body 12
        k := halfAt body 13, ci := halfAt body 15, ol := halfAt body 17, ct := halfAt body 19, vm := halfAt body 21 }
  else none

/-- The body of a TABLE_WINDOW (R59, R187), as the window it would open. -/
def parseWindow (body : List Byte) : Option LoadWindow :=
  if body.length = 8 then
    match bankOf (byteAt body 0), tableOf (byteAt body 1), orderOf (byteAt body 6), overflowOf (byteAt body 7) with
    | some bank, some table, some order, some overflow =>
      some
        { bank := bank, table := table, firstRow := byteAt body 2, lastRow := byteAt body 3
          firstCol := byteAt body 4, lastCol := byteAt body 5, order := order, overflow := overflow
          row := byteAt body 2, col := byteAt body 4, exhausted := false }
    | _, _, _, _ => none
  else none

/-- The values of a TABLE_DATA (R61, R187). -/
def parseData (body : List Byte) : Option (List Nat) :=
  let n := byteAt body 0
  if body.length = 1 + 2 * n ∧ 1 ≤ n ∧ n ≤ 100 then some ((List.range n).map fun k => halfAt body (1 + 2 * k)) else none

/-- The body of a TABLE_READ (R64, R187). -/
structure ReadForm where
  bank : BankName
  table : Table
  row : Nat
  col : Nat
  count : Nat
deriving DecidableEq, Repr

def parseRead (body : List Byte) : Option ReadForm :=
  if body.length = 5 ∧ 1 ≤ byteAt body 4 ∧ byteAt body 4 ≤ 100 then
    match bankOf (byteAt body 0), tableOf (byteAt body 1) with
    | some bank, some table =>
      some { bank := bank, table := table, row := byteAt body 2, col := byteAt body 3, count := byteAt body 4 }
    | _, _ => none
  else none

/-- The body of a BANK_OPEN or BANK_CLOSE (R58, R62, R187). -/
def parseBank (body : List Byte) : Option BankName :=
  if body.length = 1 then bankOf (byteAt body 0) else none

/-- The body of a RUN_START (R143, R187); `start` is none for NEXT. -/
structure StartForm where
  id : Nat
  bank : BankName
  thickness : Nat
  width : Nat
  start : Option Tag
deriving DecidableEq, Repr

def parseStart (body : List Byte) : Option StartForm :=
  match bankOf (byteAt body 2), byteAt body 7, body.length with
  | some bank, 0, 10 =>
    some { id := halfAt body 0, bank := bank, thickness := halfAt body 3, width := halfAt body 5, start := some (tagAt body 8) }
  | some bank, 1, 8 =>
    some { id := halfAt body 0, bank := bank, thickness := halfAt body 3, width := halfAt body 5, start := none }
  | _, _, _ => none

/-- The body of a RUN_END (R145, R187); `stop` is none for NOW. -/
structure EndForm where
  id : Nat
  stop : Option Tag
deriving DecidableEq, Repr

def parseEnd (body : List Byte) : Option EndForm :=
  match byteAt body 2, body.length with
  | 0, 5 => some { id := halfAt body 0, stop := some (tagAt body 3) }
  | 1, 3 => some { id := halfAt body 0, stop := none }
  | _, _ => none

/-- The sections of a TALLY_READ (R154, R185). -/
inductive TallySection where
  | cells | outcomes | logs
deriving DecidableEq, Repr

def parseSection : Nat → Option TallySection
  | 0 => some .cells | 1 => some .outcomes | 2 => some .logs | _ => none

/-- The body of a LOG_QUERY (R49, R187): a sequence number, or none for ALL. -/
def parseLogQuery (body : List Byte) : Option (Option (BitVec 32)) :=
  match byteAt body 0, body.length with
  | 0, 5 => some (some (BitVec.ofNat 32 (wordAt body 1)))
  | 1, 1 => some none
  | _, _ => none

/-- The body of a SAW_STATE (R128, R187): the saw, and IN or OUT. -/
def parseSawState (body : List Byte) : Option (Nat × SawState) :=
  match byteAt body 1, body.length with
  | 0, 2 => some (byteAt body 0, .inService)
  | 1, 2 => some (byteAt body 0, .out)
  | _, _ => none

/-- The body of a BIN_STATE (R137, R187): the bin, and whether it is FULL. -/
def parseBinState (body : List Byte) : Option (Nat × Bool) :=
  match byteAt body 1, body.length with
  | 0, 2 => some (byteAt body 0, false)
  | 1, 2 => some (byteAt body 0, true)
  | _, _ => none

/-- The pages of STATUS (R175). -/
inductive StatusPage where
  | line | heads | work | outfeed | runs
deriving DecidableEq, Repr

def parsePage (body : List Byte) : Option StatusPage :=
  match byteAt body 0, body.length with
  | 0, 1 => some .line
  | 1, 1 => some .heads
  | 2, 1 => some .work
  | 3, 1 => some .outfeed
  | 4, 1 => some .runs
  | _, _ => none

/-- The body of a BOARD_QUERY (R176, R184): the tag, and the first item for DEFECTS or none for RECORD. -/
def parseBoardQuery (body : List Byte) : Option (Tag × Option Nat) :=
  match byteAt body 2, body.length with
  | 0, 4 => some (tagAt body 0, none)
  | 1, 4 => some (tagAt body 0, some (byteAt body 3))
  | _, _ => none

/-! ### Ranges of LINE_CONFIG (R157) -/

/-- The number of the first parameter outside its own range, in the order of R157's table, then of the first joint
limit that fails; none when the configuration is accepted. -/
def badParameter (c : LineParams) : Option Nat :=
  if ¬(1 ≤ c.hn ∧ c.hn ≤ 12) then some 1
  else if ¬(300 ≤ c.zp ∧ c.zp ≤ 1000) then some 2
  else if ¬(2 ≤ c.sn ∧ c.sn ≤ 13) then some 3
  else if ¬(300 ≤ c.sp ∧ c.sp ≤ 1000) then some 4
  else if ¬(c.so ≤ 300) then some 5
  else if ¬(6 ≤ c.d ∧ c.d ≤ 32) then some 6
  else if ¬(1 ≤ c.h) then some 7
  else if ¬(c.m ≤ 8) then some 8
  else if ¬(1 ≤ c.aw ∧ c.aw ≤ 3) then some 9
  else if ¬(c.hd ≤ 8) then some 10
  else if ¬(c.k = 0 ∨ (24 ≤ c.k ∧ c.k ≤ 1000)) then some 11
  else if ¬(100 ≤ c.ci ∧ c.ci ≤ 20000) then some 12
  else if ¬(10 ≤ c.ol ∧ c.ol ≤ 2000) then some 13
  else if ¬(500 ≤ c.ct ∧ c.ct ≤ 10000) then some 14
  else if ¬(c.vm ≤ 65535) then some 15
  else if ¬(c.hn * c.zp ≤ 8000) then some 2
  else if ¬(c.so + (c.sn - 1) * c.sp ≤ 8000) then some 5
  else if ¬(c.h + c.aw + 2 ≤ c.d) then some 7
  else none

end Sys2Proof.Machine
end

