-- ==== Sys2Proof/Machine/Records.lean ====
section
/-! DEFINITION. The byte layouts of the records on the ports: fields (R178), blocks (R181), board reports (R183) and
the fields of replies that R189 lays out. -/

namespace Sys2Proof.Machine

/-! ### Fields (R178) -/

def optByte : Option Nat → Byte
  | none => absentByte
  | some n => byteOf n

/-- A 2-byte length or position, 0xFFFF when absent. -/
def optHalf : Option Nat → List Byte
  | none => [absentByte, absentByte]
  | some n => le2 n

/-- A run id, 0 for none. -/
def runBytes (run : Option Nat) : List Byte := le2 (run.getD 0)

/-- An optional tag with its presence byte; the two bytes of an absent tag hold no field (log entry 13). -/
def optTag (filler : BitVec 16) : Option Tag → List Byte
  | none => le2 filler.toNat ++ [flagByte false]
  | some t => le2 t.toNat ++ [flagByte true]

/-- A stamp field: 13 bytes (R178). -/
def stampBytes : Option (List Byte) → List Byte
  | none => absentByte :: List.replicate Config.stampPlaces 0x20#8
  | some text => byteOf text.length :: (text ++ List.replicate (Config.stampPlaces - text.length) 0x20#8)

/-! ### Blocks (R181) -/

/-- The set {i, j} (R88, R105). -/
def pairSet (i j : Nat) : SawSet := BitVec.twoPow 13 i ||| BitVec.twoPow 13 j

/-- The saws a decision would drop (R96, R105). -/
def chosenSaws : Chosen → SawSet
  | .piece i j _ => pairSet i j
  | .waste saws => saws
  | .pass => 0#13
  | .fallback _ => 0#13

/-- Bytes 0 to 5 of a decision block: kind, cause, i, j, grade, length index. -/
def decisionHead : Chosen → List Byte
  | .piece i j g => [0x00#8, absentByte, byteOf i, byteOf j, byteOf (gradeCode g), byteOf (j - i)]
  | .waste _ => [0x01#8, absentByte, absentByte, absentByte, absentByte, absentByte]
  | .pass => [0x02#8, absentByte, absentByte, absentByte, absentByte, absentByte]
  | .fallback c => [0x03#8, byteOf (causeCode c), absentByte, absentByte, absentByte, absentByte]

/-- The final decision block, 13 bytes. -/
def decisionBlock : Option FinalDecision → List Byte
  | none => List.replicate 13 absentByte
  | some d =>
    decisionHead d.what ++ le2 d.value ++
      [byteOf (sourceCode d.source), optByte d.bin, byteOf (decisionFlagsMask d.flags)] ++ sawBytes (chosenSaws d.what)

/-- The advisory decision block, 11 bytes. Value, flags and saw set do not apply to a FALLBACK (R88, log entry 15). -/
def advisoryBlock : Option Advisory → List Byte
  | none => List.replicate 11 absentByte
  | some (.piece i j g v reduced capped) =>
    decisionHead (.piece i j (.index g)) ++ le2 v ++ [byteOf (maskOf [reduced, capped])] ++ sawBytes (pairSet i j)
  | some (.waste saws reduced) => decisionHead (.waste saws) ++ le2 0 ++ [byteOf (maskOf [reduced])] ++ sawBytes saws
  | some (.fallback c) => decisionHead (.fallback c) ++ List.replicate 5 absentByte

/-- Bytes 1 to 3 of an override block: i, j, grade. -/
def overrideOperands : OverrideKind → List Byte
  | .setGrade g => [absentByte, absentByte, byteOf g]
  | .setTrim i j => [byteOf i, byteOf j, absentByte]
  | .setBoth i j g => [byteOf i, byteOf j, byteOf g]
  | .waste => [absentByte, absentByte, absentByte]
  | .pass => [absentByte, absentByte, absentByte]

/-- The override block, 10 bytes. -/
def overrideBlock : Option Override → List Byte
  | none => List.replicate 10 absentByte
  | some o =>
    [byteOf (overrideCode o.kind)] ++ overrideOperands o.kind ++
      [byteOf (overridePortCode o.fromPort), byteOf (regradeStatusCode o.status)] ++
      (match o.result with
        | none => [absentByte, absentByte, absentByte]
        | some r => byteOf r.grade :: le2 r.value) ++
      [flagByte o.unused]

/-- The kind of the override in a record, applied or present unused, or 0xFF (R107, R183). -/
def overrideKindByte (o : Option Override) : Byte :=
  match o with
  | none => absentByte
  | some v => byteOf (overrideCode v.kind)

/-! ### Board reports (R183) -/

/-- Bytes 0 to 40 of DECISION and BOARD_VIEW. -/
def boardReportHead (b : Board) : List Byte :=
  le2 b.tag.toNat ++ runBytes b.run ++ decisionBlock b.decision ++ stampBytes b.stamp ++ advisoryBlock b.advisory

def decisionReport (b : Board) : List Byte := boardReportHead b ++ [overrideKindByte b.override]

def boardViewReport (b : Board) (o : Occasion) : List Byte :=
  boardReportHead b ++ overrideBlock b.override ++ [byteOf (occasionCode o)]

/-- The bin output of a board at the saw line: bin 0 on a MISMATCH, else the final decision's (R134). -/
def binOutput (b : Board) : Option Nat :=
  match b.sampled, b.decision with
  | some sm, some d => if sm.outcome = .mismatch then some 0 else d.bin
  | _, _ => none

/-- The sampled set and the outcome (R183, R184). DEDUCED (log entry 35): an absent saw set outside the blocks of R181 holds
0xFFFF as one inside them does; R184 gives the 0xFF of an absent outcome. -/
def sampledBytes : Option Sampled → List Byte
  | none => [absentByte, absentByte, absentByte]
  | some sm => sawBytes sm.saws ++ [byteOf (cutOutcomeCode sm.outcome)]

def dispatchReport (b : Board) : List Byte :=
  le2 b.tag.toNat ++ runBytes b.run ++ decisionBlock b.decision ++ sampledBytes b.sampled ++ [optByte (binOutput b)] ++
    stampBytes b.stamp ++ [flagByte b.unmarked]

/-! ### BOARD_QUERY (R184) -/

/-- The zone marks of a record in 12 bytes, 0xFF beyond HN or before close. -/
def markBytes (marks : List ZoneMark) : List Byte :=
  (List.range Config.headCount).map fun z =>
    match marks[z]? with
    | none => absentByte
    | some m => byteOf (zoneMarkCode m)

def bankByte : Option BankName → Byte
  | none => absentByte
  | some n => byteOf (bankCode n)

/-- The reply body for RECORD, 78 bytes from the result on. -/
def recordReply (s : State) (b : Board) : List Byte :=
  [resultCode .ok] ++ le2 b.tag.toNat ++ [byteOf (s.position b.tag), byteOf (boardStateCode b.state)] ++ runBytes b.run ++
    [bankByte b.bank] ++ le4 (b.number.getD 0) ++ optHalf b.length ++
    [byteOf (maskOf [b.overlength, b.tracking, b.unmarked])] ++ markBytes b.marks ++ [byteOf b.defects.length] ++
    advisoryBlock b.advisory ++ overrideBlock b.override ++ decisionBlock b.decision ++ stampBytes b.stamp ++
    sampledBytes b.sampled

def defectBytes (d : Defect) : List Byte :=
  [byteOf (defectKindCode d.kind)] ++ le2 d.start ++ le2 d.stop ++ le2 d.size ++
    [byteOf d.severity, byteOf d.faces.toNat, byteOf d.source]

/-- The reply body for DEFECTS: up to 16 items from the first item on. -/
def defectsReply (b : Board) (first : Nat) : List Byte :=
  let items := (b.defects.drop first).take 16
  [resultCode .ok] ++ le2 b.tag.toNat ++ [byteOf b.defects.length, byteOf items.length] ++ items.flatMap defectBytes

/-! ### TALLY_READ (R185) -/

def endTagBytes (filler : BitVec 16) (r : Run) : List Byte := optTag filler r.endTag

def tallyHeading (filler : BitVec 16) (r : Run) : List Byte :=
  le2 r.id ++ [byteOf (bankCode r.bank), byteOf (runStateCode r.state)] ++ le2 r.startTag.toNat ++ endTagBytes filler r ++
    le4 (r.counter scannedCounter).value ++ [flagByte (r.counter scannedCounter).saturated]

/-- The values of counters a to a + n - 1, in 4 bytes each. -/
def counterBytes (r : Run) (a n : Nat) : List Byte := (List.range n).flatMap fun k => le4 (r.counter (a + k)).value

/-- R155: board litres. -/
def boardLitres (r : Run) : Nat := (r.counter lengthSumCounter).value * r.thickness * r.width / 1000000

/-- R155: recovery in thousandths, clamped to 9999; 0 with no log litres. -/
def recovery (r : Run) : Nat :=
  if (r.counter logLitresCounter).value = 0 then 0
  else min 9999 (boardLitres r * 1000 / (r.counter logLitresCounter).value)

def tallySection (r : Run) : TallySection → List Byte
  | .cells => (List.range 108).flatMap fun k => le2 (r.counter k).value
  | .outcomes =>
    let flags := maskOf ((List.range 20).map fun k => (r.counter (pieceGradedCounter + k)).saturated)
    counterBytes r pieceGradedCounter 20 ++ [byteOf flags, byteOf (flags / 256), byteOf (flags / 65536)]
  | .logs =>
    let flags :=
      maskOf ([logCountCounter, logLitresCounter, debrisCounter, suspectCounter, lengthSumCounter].map fun k =>
        (r.counter k).saturated)
    le2 r.thickness ++ le2 r.width ++ counterBytes r logCountCounter 4 ++ le4 (r.counter lengthSumCounter).value ++
      [byteOf flags] ++ le4 (boardLitres r) ++ le2 (recovery r) ++
      [flagByte ((r.counter logLitresCounter).value = 0)]

/-! ### Other records -/

/-- A log record as LOG_SCALED carries it (R188). -/
def logRecordBytes (r : LogRecord) : List Byte :=
  le4 r.sequence.toNat ++ runBytes r.run ++ le2 r.length ++ le2 r.sed ++ le2 r.led ++ le2 r.litres ++
    [byteOf (logFlagsMask r.suspect r.overlength r.unattributed)]

/-- The RUN_CLOSED report (R188). An end tag is always set when a run closes. -/
def runClosedBytes (r : Run) (cause : CloseCause) : List Byte :=
  le2 r.id ++ [byteOf (bankCode r.bank)] ++ le2 r.startTag.toNat ++ le2 (r.endTag.getD 0#16).toNat ++
    le4 (r.counter scannedCounter).value ++ [byteOf (closeCauseCode cause)]

/-- The manual pattern, preceded by the code of its kind (R187, R189). -/
def patternBytes : ManualPattern → List Byte
  | .piece i j g => [0x00#8, byteOf i, byteOf j, byteOf (gradeCode g)]
  | .waste => [0x01#8]
  | .pass => [0x02#8]

/-- The configuration in the layout of LINE_CONFIG (R182). -/
def configBytes (c : LineParams) : List Byte :=
  [byteOf c.hn] ++ le2 c.zp ++ [byteOf c.sn] ++ le2 c.sp ++ le2 c.so ++
    [byteOf c.d, byteOf c.h, byteOf c.m, byteOf c.aw, byteOf c.hd] ++ le2 c.k ++ le2 c.ci ++ le2 c.ol ++ le2 c.ct ++ le2 c.vm

end Sys2Proof.Machine
end

