-- ==== Sys2Proof/Machine/Grading.lean ====
section
/-! DEFINITION. The grading unit (Chapter 5): grading a piece, the choice of a pair, the arbiter and the engines'
takes, completions, abandon and withdrawal. -/

namespace Sys2Proof.Machine

/-! ### Grading a piece (R80 to R85) -/

/-- R80: the items of a list that overlap the piece [a, b). -/
def itemsOn (items : List Defect) (a b : Nat) : List Defect := items.filter fun d => decide (d.start < b) && decide (a < d.stop)

/-- R80: the clipped extent of an item on the piece [a, b). -/
def clippedExtent (d : Defect) (a b : Nat) : Nat := min d.stop b - max d.start a

/-- The LIMITS figure of a grade, kind and field (R51): field 0 max size, 1 max severity, 2 max extent, 3 count base,
4 count increment. -/
def limit (bk : Bank) (g : Nat) (kind : DefectKind) (field : Nat) : Nat :=
  cellValue bk .limits g (5 * defectKindCode kind + field)

/-- R81: whether an overlapping item passes at grade g. -/
def itemPasses (bk : Bank) (g : Nat) (d : Defect) (a b : Nat) : Bool :=
  decide (0 < limit bk g d.kind 0) && decide (d.size ≤ limit bk g d.kind 0) &&
    decide (d.severity ≤ limit bk g d.kind 1) && decide (clippedExtent d a b ≤ limit bk g d.kind 2)

/-- The six kinds of defect, in the order of R51. -/
def defectKinds : List DefectKind := [.knot, .hole, .split, .wane, .stain, .decay]

/-- R82: the allowance of a kind at grade g for a piece of length l. -/
def allowance (bk : Bank) (g : Nat) (kind : DefectKind) (l : Nat) : Nat := limit bk g kind 3 + limit bk g kind 4 * l / 10000

/-- R82: whether the count test is met at grade g by the overlapping items of a piece of length l. -/
def countTest (bk : Bank) (g : Nat) (items : List Defect) (l : Nat) : Bool :=
  defectKinds.all fun kind => decide ((items.filter fun d => d.kind == kind).length ≤ allowance bk g kind l)

/-- Whether the items on the piece [a, b) qualify it for grade g (R83). -/
def qualifies (bk : Bank) (items : List Defect) (a b g : Nat) : Bool :=
  (itemsOn items a b).all (fun d => itemPasses bk g d a b) && countTest bk g (itemsOn items a b) (b - a)

/-- R83: the grade before caps, 8 being REJECT. -/
def gradeBeforeCaps (bk : Bank) (items : List Defect) (a b : Nat) : Nat :=
  ((List.range (gradeCount bk)).find? (qualifies bk items a b)).getD 8

/-- R84: the cap a zone mark applies, none for GOOD; a cap at or above the grade count is REJECT. -/
def markCap (bk : Bank) (m : ZoneMark) : Option Nat :=
  let applied (c : Nat) : Nat := if c < gradeCount bk then c else 8
  match m with
  | .good => none
  | .stale => some (applied (staleCap bk))
  | .blind => some (applied (blindCap bk))
  | .incomplete => some (applied (blindCap bk))
  | .poison => some (applied (blindCap bk))

/-- R84: whether zone z overlaps the piece [a, b). -/
def zoneOverlaps (zp z a b : Nat) : Bool := decide (z * zp < b) && decide (a < (z + 1) * zp)

/-- R84: the grade after the caps of the overlapping zones, z being the number of the first zone of the list. -/
def applyCaps (bk : Bank) (zp a b : Nat) : Nat → List ZoneMark → Nat → Nat
  | _, [], g => g
  | z, m :: ms, g =>
    let g1 := if zoneOverlaps zp z a b then max g ((markCap bk m).getD 0) else g
    applyCaps bk zp a b (z + 1) ms g1

/-- The grade of a piece before and after caps, and its value (R83 to R85). -/
structure Graded where
  before : Nat
  grade : Nat
  value : Nat
deriving DecidableEq, Repr

/-- Grading the piece between saws i and j of a board under a bank (R80 to R85). -/
def gradePiece (c : LineParams) (bk : Bank) (b : Board) (i j : Nat) : Graded :=
  let lo := sawPosition c i
  let hi := sawPosition c j
  let before := gradeBeforeCaps bk b.defects lo hi
  let grade := applyCaps bk c.zp lo hi 0 b.marks before
  { before := before, grade := grade, value := cellValue bk .price grade (j - i) }

/-! ### The choice (R77 to R79, R86 to R88) -/

/-- The pairs (i, j) with i < j < n and both in the snapshot (R77). -/
def candidatePairs (n : Nat) (snapshot : SawSet) : List (Nat × Nat) :=
  (List.range n).flatMap fun i =>
    ((List.range n).filter fun j => decide (i < j) && hasSaw snapshot i && hasSaw snapshot j).map fun j => (i, j)

/-- R79: a reduced search keeps the pairs whose near saw is the lowest-numbered saw in the snapshot. -/
def searchedPairs (n : Nat) (snapshot : SawSet) (reduced : Bool) : List (Nat × Nat) :=
  if reduced then
    (candidatePairs n snapshot).filter fun p => (List.range n).find? (hasSaw snapshot) == some p.1
  else candidatePairs n snapshot

/-- A pair with its grading. -/
structure Candidate where
  i : Nat
  j : Nat
  graded : Graded
deriving DecidableEq, Repr

/-- R78: whether a pair is eligible on a board of the measured length. -/
def eligible (c : LineParams) (bk : Bank) (length : Nat) (k : Candidate) : Bool :=
  decide (minLengthIndex bk ≤ k.j - k.i) && decide (sawPosition c k.j ≤ length) && decide (0 < k.graded.value)

/-- R86: whether the first candidate is preferred: higher value, then greater length index, then smaller near saw. -/
def preferred (x y : Candidate) : Bool :=
  decide (y.graded.value < x.graded.value) ||
    (x.graded.value == y.graded.value &&
      (decide (y.j - y.i < x.j - x.i) || (x.j - x.i == y.j - y.i && decide (x.i < y.i))))

/-- The best of a list by R86. -/
def bestOf : List Candidate → Option Candidate
  | [] => none
  | k :: ks =>
    match bestOf ks with
    | none => some k
    | some m => some (if preferred m k then m else k)

/-- The eligible candidates of a board (R78). -/
def eligibleCandidates (c : LineParams) (bk : Bank) (b : Board) (snapshot : SawSet) (reduced : Bool) : List Candidate :=
  ((searchedPairs c.sn snapshot reduced).map fun p => ({ i := p.1, j := p.2, graded := gradePiece c bk b p.1 p.2 } : Candidate)).filter
    (eligible c bk (b.length.getD 0))

/-- R87: the saw set of an engine's WASTE: the saws of the snapshot short of the board's far end. -/
def wasteSet (c : LineParams) (length : Nat) (snapshot : SawSet) : SawSet :=
  sawsWhere c.sn fun k => hasSaw snapshot k && decide (sawPosition c k < length)

/-- R88: the advisory decision an engine writes. -/
def evaluate (c : LineParams) (bk : Bank) (b : Board) (snapshot : SawSet) (reduced : Bool) : Advisory :=
  match bestOf (eligibleCandidates c bk b snapshot reduced) with
  | some k => .piece k.i k.j k.graded.grade k.graded.value reduced (decide (k.graded.before < k.graded.grade))
  | none => .waste (wasteSet c (b.length.getD 0) snapshot) reduced

/-! ### The engines -/

/-- The number in the list, counted from 0, of the lowest-numbered free engine (R69). -/
def freeEngine (engines : List Engine) : Option Nat := engines.findIdx? fun e => e == .idle

def State.setGrading (s : State) (g : Grading) : State := { s with grading := g }

def State.setEngine (s : State) (k : Nat) (e : Engine) : State :=
  s.setGrading { s.grading with engines := s.grading.engines.set k e }

/-- R70: the saw snapshot, saws 0 to SN − 1 that are IN. -/
def State.snapshot (s : State) : SawSet := sawsWhere s.config.sn s.sawIn

/-- R70: whether a take at a position is REDUCED. -/
def reducedAt (c : LineParams) (position : Nat) : Bool := decide (0 < c.hd) && decide (c.d - c.h - c.hd ≤ position)

/-- R70: engine k takes the board with the earliest tag in the queue. -/
def State.takeBoard (s : State) (k : Nat) : State :=
  match s.grading.queue with
  | [] => s
  | t :: rest =>
    let s1 := s.setGrading
      { s.grading with
        queue := rest
        engines := s.grading.engines.set k (.evaluating t s.snapshot (reducedAt s.config (s.position t))) }
    s1.mapBoard t fun b => { b with state := .evaluating }

/-- R71: engine k takes the oldest regrade entry. -/
def State.takeRegrade (s : State) (k : Nat) : State :=
  match s.grading.regrades with
  | [] => s
  | e :: rest =>
    s.setGrading
      { s.grading with regrades := rest, engines := s.grading.engines.set k (.regrading e.tag e.i e.j false) }

/-- One step of the arbiter (R69): the lowest-numbered free engine takes the oldest regrade, else the earliest board. -/
def State.arbitrateOnce (s : State) : State :=
  match freeEngine s.grading.engines with
  | none => s
  | some k => if s.grading.regrades.isEmpty then s.takeBoard k else s.takeRegrade k

/-- The arbiter (R69): its step repeated while an engine is free and work waits. Each step that acts fills an engine, so
three steps are enough. -/
def State.arbitrate (s : State) : State := s.arbitrateOnce.arbitrateOnce.arbitrateOnce

/-- R66: a tag put at its place in the evaluation queue, earliest tag (greatest position) first. -/
def insertTag (serial t : Tag) : List Tag → List Tag
  | [] => [t]
  | u :: us => if (serial - u).toNat < (serial - t).toNat then t :: u :: us else u :: insertTag serial t us

/-- A board joins the evaluation queue, and the arbiter acts (R66, R69). -/
def State.enqueueBoard (s : State) (t : Tag) : State :=
  (s.setGrading { s.grading with queue := insertTag s.tracker.serial t s.grading.queue }).arbitrate

/-- Engine e with a regrade of board t withdrawn, if it holds one (R73, R75). -/
def withdrawEngine (t : Tag) (e : Engine) : Engine :=
  match e with
  | .regrading u i j w => .regrading u i j (w || u == t)
  | .evaluating u sn r => .evaluating u sn r
  | .idle => .idle

/-- R75: the regrade of board t withdrawn from the list and from the engines. -/
def State.withdrawRegrade (s : State) (t : Tag) : State :=
  s.setGrading
    { s.grading with
      regrades := s.grading.regrades.filter (fun e => e.tag ≠ t)
      engines := s.grading.engines.map (withdrawEngine t) }

/-- Engine e, IDLE when it evaluates board t (R73). -/
def abandonEngine (t : Tag) (e : Engine) : Engine :=
  match e with
  | .evaluating u sn r => if u = t then .idle else .evaluating u sn r
  | .regrading u i j w => .regrading u i j w
  | .idle => .idle

/-- R73: the grading unit gives up its work for a board that commits. -/
def State.abandonBoard (s : State) (t : Tag) : State :=
  let s1 := s.withdrawRegrade t
  (s1.setGrading
    { s1.grading with
      queue := s1.grading.queue.filter (fun u => u ≠ t)
      engines := s1.grading.engines.map (abandonEngine t) }).arbitrate

/-- The bank of a board's record (R10). -/
def State.boardBank (s : State) (b : Board) : Option Bank := b.bank.map s.bank

/-- A BOARD_VIEW report for the record of a tag offered to the console port (R72, R74, R107). -/
def State.offerBoardView (s : State) (t : Tag) (o : Occasion) : State :=
  match s.findBoard t with
  | none => s
  | some b => s.offer .console 0x42#8 (boardViewReport b o)

/-- R72: the advisory decision written into a record; only an EVALUATING record takes it (R11). -/
def State.writeAdvisory (s : State) (snapshot : SawSet) (reduced : Bool) (b : Board) : Board :=
  match s.boardBank b, b.state with
  | some bk, .evaluating => { b with advisory := some (evaluate s.config bk b snapshot reduced), state := .decided }
  | _, _ => b

/-- R72: engine k (counted from 0) completes its evaluation. -/
def State.completeEvaluation (s : State) (k : Nat) : State :=
  match s.grading.engines[k]? with
  | some (.evaluating t snapshot reduced) =>
    let s1 := s.mapBoard t (s.writeAdvisory snapshot reduced)
    ((s1.setEngine k .idle).offerBoardView t .evaluation).arbitrate
  | _ => s

/-- The result of a regrade written into the override of a record (R74, R89). -/
def Board.withRegrade (b : Board) (r : RegradeResult) : Board :=
  { b with override := b.override.map fun o => { o with result := some r } }

/-- R89: the grade and value of the one piece (i, j) written as the regrade result of a record's override. -/
def State.writeRegrade (s : State) (i j : Nat) (b : Board) : Board :=
  match s.boardBank b with
  | some bk =>
    b.withRegrade { grade := (gradePiece s.config bk b i j).grade, value := (gradePiece s.config bk b i j).value }
  | none => b

/-- R74: engine k (counted from 0) completes its regrade. -/
def State.completeRegrade (s : State) (k : Nat) : State :=
  match s.grading.engines[k]? with
  | some (.regrading t i j false) =>
    let s1 := s.mapBoard t (s.writeRegrade i j)
    ((s1.setEngine k .idle).offerBoardView t .regrade).arbitrate
  | some (.regrading _ _ _ true) => (s.setEngine k .idle).arbitrate
  | _ => s

/-- EVALUATION_COMPLETE: engine e, 1 to 3, completes its evaluation (R72). An engine that holds no evaluation does not
complete one, and while a PART_RESET completes a completion writes nothing (R163). -/
def execEvaluationComplete (engine : Nat) (s : State) : Host.Outcome State Fault Refusal :=
  if engine = 0 ∨ s.line.resetting then .next s else .next (s.completeEvaluation (engine - 1))

/-- REGRADE_COMPLETE: engine e, 1 to 3, completes its regrade (R74). -/
def execRegradeComplete (engine : Nat) (s : State) : Host.Outcome State Fault Refusal :=
  if engine = 0 ∨ s.line.resetting then .next s else .next (s.completeRegrade (engine - 1))

end Sys2Proof.Machine
end

