-- ==== Sys2Proof/Machine/Intake.lean ====
section
/-! DEFINITION. The scan intake (Chapter 2): assembly windows, zone reports, assembly close and its routes, misses and
retirement, calibrations. What one event sets off inside the intake is worked through as a list of works, because a
close can retire a head, a retirement can close another record, and a close settles calibration outcomes. -/

namespace Sys2Proof.Machine

/-! ### Frames sent on the zone link (R17, R180) -/

/-- The bytes of a frame the part sends: its address on the link is 0 (R180). -/
def sentFrame (kind : LinkKind) (serial : Tag) (body : List Byte) : List Byte :=
  encodeLinkFrame 0x00#8 (linkKindCode kind) serial body

/-- A frame sent on the zone link. -/
def State.sendLink (s : State) (kind : LinkKind) (serial : Tag) (body : List Byte) : State :=
  s.emit (.link (sentFrame kind serial body))

/-! ### Windows (R18) -/

/-- The view of a head outside the expected set, and of one whose recorded report a retirement removes (R32). -/
def blankView : HeadView :=
  { expected := false, outcome := .none, present := false, endPos := none, stale := false, overflow := false, truncated := false }

/-- R18: whether head h is in the expected set at the scan event of a serial. -/
def State.expects (s : State) (serial : Tag) (h : Nat) : Bool :=
  decide (h ≤ s.config.hn) && (s.head h).state != .retired && (s.head h).state != .absent &&
    (s.head h).membership != some serial

/-- R18: the window opened at the scan event, one view for each of heads 1 to 12. -/
def State.openWindow (s : State) (serial : Tag) : List HeadView :=
  (List.range Config.headCount).map fun k => { blankView with expected := s.expects serial (k + 1) }

/-- The view of head h in a window. -/
def viewOf (w : List HeadView) (h : Nat) : HeadView := if h = 0 then blankView else w.getD (h - 1) blankView

/-- R23: whether every head in the expected set has outcome GOOD or POISON. -/
def windowComplete (w : List HeadView) : Bool :=
  w.all fun v => !v.expected || v.outcome == .good || v.outcome == .poison

/-- R24: whether the lug carries a board: a head with presence recorded, or a POISON zone. -/
def windowKept (w : List HeadView) : Bool := w.any fun v => v.present || v.outcome == .poison

/-- The numbers of the heads of a list of views for which p holds, h being the number of the first. -/
def headsWhere (p : HeadView → Bool) : Nat → List HeadView → List Nat
  | _, [] => []
  | h, v :: vs => if p v then h :: headsWhere p (h + 1) vs else headsWhere p (h + 1) vs

/-- R31: the heads missing at a close. -/
def missingHeads (w : List HeadView) : List Nat :=
  headsWhere (fun v => v.expected && (v.outcome == .none || v.outcome == .resendSent)) 1 w

/-- The highest number of a list. -/
def highest (l : List Nat) : Nat := l.foldl max 0

/-- R24 step 1: the measured length and the OVERLENGTH flag. -/
def measure (c : LineParams) (w : List HeadView) : Nat × Bool :=
  let present := headsWhere (fun v => v.present) 1 w
  if present.isEmpty then (highest (headsWhere (fun v => v.outcome == .poison) 1 w) * c.zp, false)
  else
    let h := highest present
    match (viewOf w h).endPos with
    | some e => ((h - 1) * c.zp + min c.zp (max 1 e), false)
    | none => (h * c.zp, decide (h = c.hn))

/-- R22: the mark of a zone from its head's view. A head outside the expected set was RETIRED or calibrating. -/
def markOf (v : HeadView) : ZoneMark :=
  if !v.expected then .blind
  else
    match v.outcome with
    | .poison => .poison
    | .none => .blind
    | .resendSent => .blind
    | .good => if v.overflow || v.truncated then .incomplete else if v.stale then .stale else .good

/-- R22: the marks of zones 0 to HN − 1. -/
def marksOf (c : LineParams) (w : List HeadView) : List ZoneMark := (w.take c.hn).map markOf

/-- R24 step 2: the items against the measured length. -/
def clampItems (length : Nat) (items : List Defect) : List Defect :=
  (items.filter fun d => decide (d.start < length)).map fun d => { d with stop := min d.stop length }

/-! ### Assembly close (R23 to R25) -/

/-- What an event sets off inside the intake. -/
inductive Work where
  | close (tag : Tag)
  | closeIfComplete (tag : Tag)
  | miss (head : Nat)
  | settle (head : Nat) (outcome : CalOutcome)
  | retire (head : Nat) (byMiss : Bool)
  | retired (head : Nat) (byMiss lost : Bool)
  | poisonNotice (head : Nat) (tag : Tag)
  | closeCalibration (serial : Tag)
deriving DecidableEq, Repr

/-- R149: a kept board counted as scanned; the board number is the counter after it, absent with no run. -/
def State.countScanned (s : State) (run : Option Nat) : State × Option Nat :=
  match run with
  | none => (s.mapFigures fun u => { u with scanned := satAdd Config.max32 u.scanned 1 }, none)
  | some id =>
    let s1 := s.count id scannedCounter 1
    (s1, (s1.findRun id).map fun r => (r.counter scannedCounter).value)

/-- R25: the cause of the fallback a kept record is routed to, none when it joins the evaluation queue. -/
def State.routeCause (s : State) (b : Board) (w : List HeadView) : Option Cause :=
  if w.any (fun v => v.outcome == .poison) then some .poison
  else if s.line.state = .stopped then some .stopped
  else if b.run = none then some .noRun
  else if Config.queuePlaces ≤ s.grading.queue.length then some .queueFull
  else none

/-- R24: a kept record filled at close, before its route. -/
def fillBoard (c : LineParams) (w : List HeadView) (number : Option Nat) (b : Board) : Board :=
  { b with
    length := some (measure c w).1
    overlength := (measure c w).2
    defects := clampItems (measure c w).1 b.defects
    marks := marksOf c w
    number := number
    window := none }

/-- R24 and R25: a kept record filled, counted and routed. -/
def State.keepBoard (s : State) (b : Board) (w : List HeadView) : State :=
  let counted := s.countScanned b.run
  let filled := fillBoard s.config w counted.2
  match s.routeCause b w with
  | some cause =>
    let s1 := counted.1.mapBoard b.tag fun x =>
      { filled x with advisory := some (.fallback cause), state := .decided }
    if cause = .queueFull then s1.notice (.queueFull b.tag) else s1
  | none => (counted.1.mapBoard b.tag fun x => { filled x with state := .queued }).enqueueBoard b.tag

def State.setCalibrations (s : State) (cs : List Calibration) : State :=
  { s with intake := { s.intake with calibrations := cs } }

/-- R29, R30: assembly for a serial has closed, and the record was kept or dropped. -/
def State.noteAssembly (s : State) (serial : Tag) (kept : Bool) : State :=
  s.setCalibrations (s.intake.calibrations.map fun c => if c.serial = serial then { c with kept := some kept } else c)

/-- The outcome a member is settled as: DISTURBED where the record was kept (R29, R30). -/
def settledAs (kept : Bool) (o : CalOutcome) : CalOutcome := if kept then .disturbed else o

/-- R30: the held outcomes of the calibration for a serial, as they are settled when assembly closes. -/
def State.heldSettles (s : State) (serial : Tag) (kept : Bool) : List Work :=
  (s.intake.calibrations.filter fun c => c.serial = serial).flatMap fun c =>
    c.members.filterMap fun m => m.outcome.map fun o => Work.settle m.head (settledAs kept o)

/-- Assembly close of a SCANNING record (R23): the record is dropped or kept and routed, as the state stands when the
close is taken; then the misses of the missing heads (R31) and the held calibration outcomes (R30) follow. -/
def State.closeBoard (s : State) (t : Tag) : State × List Work :=
  match s.findBoard t with
  | none => (s, [])
  | some b =>
    match b.state, b.window with
    | .scanning, some w =>
      let kept := windowKept w
      let works := (missingHeads w).map Work.miss ++ s.heldSettles t kept
      let s1 := if kept then s.keepBoard b w else s.removeBoard t
      let ordered := (s1.noteAssembly t kept).shuffle works
      (ordered.2, ordered.1)
    | _, _ => (s, [])

/-! ### Misses, settlements and retirement (R30 to R32, R35) -/

/-- A calibration without a head among its members. -/
def Calibration.without (c : Calibration) (h : Nat) : Calibration :=
  { c with members := c.members.filter fun m => m.head ≠ h }

/-- Head h out of every calibration, with membership none. -/
def State.leaveCalibration (s : State) (h : Nat) : State :=
  (s.setCalibrations (s.intake.calibrations.map fun c => c.without h)).mapHead h fun e => { e with membership := none }

/-- R31: one more consecutive miss; the third retires the head. THE MODEL'S CHOICE (log entry 33): a miss of a closed record
that still waits when its head has been RETIRED meanwhile in the same event is counted on the RETIRED head. -/
def State.missHead (s : State) (h : Nat) : State × List Work :=
  let n := (s.head h).misses + 1
  let s1 := s.mapHead h fun e => { e with misses := n }
  if 3 ≤ n then (s1, [.retire h true]) else (s1, [])

/-- R30: settling a calibration outcome. -/
def State.settleHead (s : State) (h : Nat) (o : CalOutcome) : State × List Work :=
  let s1 := s.leaveCalibration h
  match o with
  | .good =>
    ((s1.mapHead h fun e => { e with state := .active, counter := s1.config.ci, misses := 0 }).refreshAttention, [])
  | .disturbed => (s1, [])
  | .failed => (s1, [.miss h])

/-- R32 step 3: head h removed from a window. -/
def dropView (w : List HeadView) (h : Nat) : List HeadView := if h = 0 then w else w.set (h - 1) blankView

/-- R32 step 3: head h removed from a SCANNING record. -/
def Board.withoutHead (h : Nat) (b : Board) : Board :=
  match b.state, b.window with
  | .scanning, some w =>
    { b with window := some (dropView w h), defects := b.defects.filter fun d => d.source ≠ h }
  | _, _ => b

/-- The SCANNING records whose expected set is complete. -/
def State.completeTags (s : State) : List Tag :=
  (s.tracker.ring.filter fun b =>
    b.state == .scanning && (match b.window with | some w => windowComplete w | none => false)).map fun b => b.tag

/-- R32, R33: retirement of a head that is ACTIVE, PENDING_CAL or STALE. -/
def State.retireHead (s : State) (h : Nat) (byMiss : Bool) : State × List Work :=
  let s1 := s.mapHead h fun e => { e with state := .retired, counter := 0, latch := false, misses := 0 }
  let s2 := (s1.leaveCalibration h).refreshAttention
  let s3 := s2.setRing (s2.tracker.ring.map (Board.withoutHead h))
  let lost := s3.allRetired && s3.line.state != .configuring
  let ordered := s3.shuffle (s3.completeTags.map Work.close)
  (ordered.2, ordered.1 ++ [.retired h byMiss lost])

/-- R35: the poison notice of a head considered. -/
def State.considerPoison (s : State) (h : Nat) (t : Tag) : State :=
  if (s.head h).latch then s
  else (s.mapHead h fun e => { e with latch := true }).notice (.headPoison h t)

/-- R30: the calibration of a serial closed at position AW, its members without an outcome settled FAILED. -/
def State.closeCalibration (s : State) (serial : Tag) : State × List Work :=
  let late := (s.intake.calibrations.filter fun c => c.serial = serial).flatMap fun c =>
    c.members.map fun m => Work.settle m.head .failed
  let ordered := (s.setCalibrations (s.intake.calibrations.filter fun c => c.serial ≠ serial)).shuffle late
  (ordered.2, ordered.1)

/-- One work, and the works it sets off, which come before the others that wait. -/
def State.work (s : State) : Work → State × List Work
  | .close t => s.closeBoard t
  | .closeIfComplete t => if t ∈ s.completeTags then s.closeBoard t else (s, [])
  | .miss h => s.missHead h
  | .settle h o => s.settleHead h o
  | .retire h byMiss => s.retireHead h byMiss
  | .retired h byMiss lost =>
    let s1 := if byMiss then s.notice (.headRetired h) else s
    (if lost then s1.raiseFault .allHeadsLost else s1, [])
  | .poisonNotice h t => (s.considerPoison h t, [])
  | .closeCalibration serial => s.closeCalibration serial

/-- The works worked through, at most `fuel` of them. -/
def runWorks : Nat → List Work → State → State
  | 0, _, s => s
  | _ + 1, [], s => s
  | n + 1, w :: ws, s => runWorks n ((s.work w).2 ++ ws) (s.work w).1

/-- More works than any event sets off: each record in the ring closes at most once and each head retires at most once,
and a close sets off at most 12 misses and 12 settlements. -/
def State.workFuel (s : State) : Nat := 64 * (s.tracker.ring.length + 2)

/-- An event's works worked through to the end. -/
def State.works (s : State) (ws : List Work) : State := runWorks s.workFuel ws s

/-! ### Reports on the zone link -/

/-- R17: whether a frame from an address is taken as a board head's: a head 1 to HN that is not ABSENT, with the line
out of CONFIGURING and no PART_RESET completing (R163). -/
def State.hearsHead (s : State) (h : Nat) : Bool :=
  decide (1 ≤ h) && decide (h ≤ s.config.hn) && (s.head h).state != .absent && s.takesLugs

/-- The open window of a serial with head h in its expected set (R19, R20). -/
def State.openView (s : State) (serial : Tag) (h : Nat) : Option HeadView :=
  match s.findBoard serial with
  | none => none
  | some b =>
    match b.state, b.window with
    | .scanning, some w => if (viewOf w h).expected then some (viewOf w h) else none
    | _, _ => none

/-- The view of head h in the window of a serial changed. -/
def State.mapView (s : State) (serial : Tag) (h : Nat) (f : HeadView → HeadView) : State :=
  if h = 0 then s else s.mapBoard serial fun b => { b with window := b.window.map fun w => w.modify (h - 1) f }

/-- R21 step 1: whether an item is malformed. -/
def ZoneItem.malformed (it : ZoneItem) : Bool :=
  (defectKindOf it.kind).isNone || decide (8000 < it.start) || decide (8000 < it.stop) || decide (it.stop ≤ it.start) ||
    decide (1000 < it.size) || decide (15 < it.severity)

/-- The defect list with the flags of the reporting head's zone while items are admitted (R21). -/
structure Admission where
  items : List Defect
  overflow : Bool
  truncated : Bool
deriving DecidableEq, Repr

/-- R21: one item tested, and admitted or discarded. -/
def admitItem (zp h : Nat) (a : Admission) (it : ZoneItem) : Admission :=
  match defectKindOf it.kind with
  | none => { a with truncated := true }
  | some kind =>
    if it.malformed then { a with truncated := true }
    else if it.start < (h - 1) * zp ∨ h * zp ≤ it.start then a
    else if Config.defectPlaces ≤ a.items.length then { a with overflow := true }
    else
      { a with
        items := a.items ++
          [{ kind := kind, start := it.start, stop := it.stop, size := it.size, severity := it.severity,
             faces := it.faces, source := h }] }

/-- R21: the items of a taken report in their order; a report's truncated flag truncates its zone. -/
def admitItems (zp h : Nat) (defects : List Defect) (z : ZoneBody) : Admission :=
  z.items.foldl (admitItem zp h) { items := defects, overflow := false, truncated := z.truncated }

/-- R19: a good report of head h about a serial whose outcome there is NONE or RESEND_SENT taken into assembly. -/
def State.takeReport (s : State) (h : Nat) (serial : Tag) (z : ZoneBody) : State :=
  match s.findBoard serial with
  | none => s
  | some b =>
    let adm := admitItems s.config.zp h b.defects z
    let stale := (s.head h).state == .stale
    let s1 := (s.mapBoard serial fun x => { x with defects := adm.items }).mapView serial h fun v =>
      { v with outcome := .good, present := z.present, endPos := z.endPos, stale := stale, overflow := adm.overflow,
               truncated := adm.truncated }
    (s1.mapHead h fun e => { e with misses := 0 }).works [.closeIfComplete serial]

/-- R20: a corrupt report of head h about a serial, by the outcome there. -/
def State.takeCorrupt (s : State) (h : Nat) (serial : Tag) (v : HeadView) : State :=
  match v.outcome with
  | .none => (s.mapView serial h fun x => { x with outcome := .resendSent }).sendLink .resend serial [byteOf h]
  | .resendSent =>
    (s.mapView serial h fun x => { x with outcome := .poison }).works
      [.miss h, .poisonNotice h serial, .closeIfComplete serial]
  | .good => s
  | .poison => s

/-- ZONE_REPORT: a frame of that kind from the address `sender` about `serial`, with its frame check passed or not, and
corrupt too when its body does not fit (R17, R19, R20). -/
def State.zoneReport (s : State) (h : Nat) (serial : Tag) (frameOk : Bool) (body : List Byte) : State :=
  if s.hearsHead h then
    match s.openView serial h with
    | none => s
    | some v =>
      match (if frameOk then parseZoneReport body else none) with
      | none => s.takeCorrupt h serial v
      | some z => if v.outcome = .none ∨ v.outcome = .resendSent then s.takeReport h serial z else s
  else s

def execZoneReport (sender : Byte) (serial : Tag) (frameOk : Bool) (body : List Byte) (s : State) :
    Host.Outcome State Fault Refusal :=
  .next (s.zoneReport sender.toNat serial frameOk body)

/-- R30: a good CAL_RESULT of head h for the open calibration of a serial: settled at once, or held until assembly
closes. -/
def State.takeCalibration (s : State) (h : Nat) (c : Calibration) (o : CalOutcome) : State :=
  match c.kept with
  | some kept => s.works [.settle h (settledAs kept o)]
  | none =>
    s.setCalibrations (s.intake.calibrations.map fun x =>
      if x.serial = c.serial then
        { x with members := x.members.map fun m => if m.head = h then { m with outcome := some o } else m }
      else x)

/-- R30: the result is taken when the head is a member whose pending outcome is NONE; any other is discarded. -/
def State.calResult (s : State) (h : Nat) (serial : Tag) (frameOk : Bool) (body : List Byte) : State :=
  if s.hearsHead h && frameOk then
    match s.intake.calibrations.find? (fun c => c.serial = serial), parseCalResult body with
    | some c, some o => if { head := h, outcome := none } ∈ c.members then s.takeCalibration h c o else s
    | _, _ => s
  else s

def execCalResult (sender : Byte) (serial : Tag) (frameOk : Bool) (body : List Byte) (s : State) :
    Host.Outcome State Fault Refusal :=
  .next (s.calResult sender.toNat serial frameOk body)

/-- ZONE_LINK_FRAME_DISCARD: a frame that fails its header check, comes from an unknown or ABSENT address or has an
unexpected kind is discarded and has no other effect (R17, R180). -/
def execZoneLinkFrameDiscard (_bytes : List Byte) (s : State) : Host.Outcome State Fault Refusal := .next s

/-! ### The intake's parts of a lug event -/

/-- R27: a head's counter at a lug event, before a STALE transition; `before` is the head's state as the event found it. A
head that the same event has made ACTIVE by a GOOD calibration keeps its CI, so that it becomes PENDING_CAL CI lug events
later whatever the order of the event's parts. -/
def tickHead (ol : Nat) (before : HeadState) (e : Head) : Head :=
  match before, e.state with
  | .active, .active =>
    if e.counter ≤ 1 then { e with state := .pendingCal, counter := ol } else { e with counter := e.counter - 1 }
  | .pendingCal, .pendingCal => { e with counter := e.counter - 1 }
  | _, _ => e

/-- R27: every head's counter, against the table as the lug event found it. -/
def tickHeads (ol : Nat) : List Head → List Head → List Head
  | b :: bs, e :: es => tickHead ol b.state e :: tickHeads ol bs es
  | _, es => es

/-- R27: a PENDING_CAL head whose counter has reached 0 becomes STALE, with its notice and the attention reason. -/
def State.goStale (s : State) (h : Nat) : State :=
  if (s.head h).state = .pendingCal ∧ (s.head h).counter = 0 then
    ((s.mapHead h fun e => { e with state := .stale }).notice (.headStale h)).refreshAttention
  else s

/-- The heads of a table that are PENDING_CAL with counter 0, n being the number of the first. -/
def runOut : Nat → List Head → List Nat
  | _, [] => []
  | n, e :: es => if e.state = .pendingCal ∧ e.counter = 0 then n :: runOut (n + 1) es else runOut (n + 1) es

/-- R27: the calibration counters at a lug event that found the table `before`. The heads that were PENDING_CAL and run out become STALE. -/
def State.tickCounters (before : List Head) (s : State) : State :=
  let s1 := { s with intake := { s.intake with heads := tickHeads s.config.ol before s.intake.heads } }
  let ordered := s1.shuffle (runOut 1 s1.intake.heads)
  ordered.1.foldl State.goStale ordered.2

/-- R27: an ACTIVE head whose counter has reached 0 becomes PENDING_CAL with its counter loaded with OL. -/
def State.calDue (s : State) (h : Nat) : State :=
  if (s.head h).state = .active ∧ (s.head h).counter = 0 then
    s.mapHead h fun e => { e with state := .pendingCal, counter := s.config.ol }
  else s

/-- HEAD_CAL_DUE: the first transition of R27 for a head whose counter stands at 0. The lug event that brings the
counter there makes it by itself (log entry 11). -/
def execHeadCalDue (head : Nat) (s : State) : Host.Outcome State Fault Refusal := .next (s.calDue head)

/-- HEAD_STALE: the second transition of R27 for a head whose counter stands at 0 (log entry 11). -/
def execHeadStale (head : Nat) (s : State) : Host.Outcome State Fault Refusal := .next (s.goStale head)

/-- R28: the heads that want calibration, n being the number of the first. -/
def wantCalibration : Nat → List Head → List Nat
  | _, [] => []
  | n, e :: es =>
    if (e.state = .pendingCal ∨ e.state = .stale) ∧ e.membership = none then n :: wantCalibration (n + 1) es
    else wantCalibration (n + 1) es

/-- A set of heads as a mask: bit h for head h (R178). -/
def headMask (hs : List Nat) : Nat := (hs.map fun h => 2 ^ h).sum

/-- R28: the choice of a calibration lug. -/
def State.chooseCalibration (s : State) : State :=
  let hs := wantCalibration 1 s.intake.heads
  match s.tracker.eye with
  | some e =>
    if !e.loaded && !hs.isEmpty then
      let s1 := s.sendLink .calibrate e.serial (le2 (headMask hs))
      let s2 := hs.foldl (fun x h => x.mapHead h fun t => { t with membership := some e.serial }) s1
      s2.setCalibrations
        (s2.intake.calibrations ++
          [{ serial := e.serial, members := hs.map fun h => { head := h, outcome := none }, kept := none }])
    else s
  | none => s

/-- R23, R30: position AW: the record there, if still SCANNING, closes; then the calibration for its serial closes. -/
def State.windowClose (s : State) : State :=
  let t := s.tagAtPosition s.config.aw
  s.works [.close t, .closeCalibration t]

/-! ### Head requests (R33 to R35) -/

/-- R33: HEAD_RETIRE of a head named in its range. -/
def State.retireByHost (s : State) (h : Nat) : State :=
  if (s.head h).state = .retired then s else s.works [.retire h false]

/-- R34: HEAD_RESTORE of a RETIRED head. -/
def State.restoreHead (s : State) (h : Nat) : State :=
  (s.mapHead h fun _ => { state := .stale, counter := 0, misses := 0, latch := false, membership := none }).refreshAttention

end Sys2Proof.Machine
end

