-- ==== Sys2Proof/Machine/Requests.lean ====
section
/-! DEFINITION. The taking of a request (R168, R170): the buffer's frame is taken when the outbound queue has a place for
the reply, the handler answers it, the reply is queued, and then the request's effects and reports follow. -/

namespace Sys2Proof.Machine

/-- What a request does: the body of its reply, result code first, and its effect on the part, which comes after the
reply has filled its place (R168). -/
structure Answer where
  reply : List Byte
  effect : State → State

/-- A reply that holds the result code alone and changes nothing (R169, R179). -/
def refuse (r : Result) : Answer := { reply := [resultCode r], effect := id }

/-- An OK reply with its fields and the request's effect. -/
def accept (fields : List Byte) (effect : State → State) : Answer :=
  { reply := resultCode .ok :: fields, effect := effect }

/-- R170, R179: the request kinds of a port. -/
def inRequestSet (p : Port) (kind : Byte) : Bool :=
  match p with
  | .line => decide (1 ≤ kind.toNat) && decide (kind.toNat ≤ 0x1C)
  | .console => decide (1 ≤ kind.toNat) && decide (kind.toNat ≤ 0x20) && !(decide (5 ≤ kind.toNat) && decide (kind.toNat ≤ 0x1C))

/-- R168: the buffer emptied as its frame is taken. The reply may need filler (log entry 13), so a choice is counted. -/
def State.takeFrame (s : State) (p : Port) : State :=
  { s.setPort p { s.port p with inbound := none } with draws := s.draws + 1 }

/-- The frame that port p can take: the one in its buffer, when a place is free for the reply (R168, R171). -/
def State.waiting (s : State) (p : Port) : Option Frame :=
  if (s.port p).outbound.length < places p then (s.port p).inbound else none

/-- The reply frame to a request: its kind plus 0x80, and its tag (R168). -/
def replyFrame (f : Frame) (body : List Byte) : Frame := { kind := f.kind + 0x80#8, tag := f.tag, body := body }

/-- A request answered: its reply queued and its effect made. -/
def State.answer (s : State) (p : Port) (f : Frame) (a : Answer) : State := a.effect (s.pushReply p (replyFrame f a.reply))

/-- Port p takes the request of a kind from its buffer, if that is what waits there and its reply has a place. A kind
outside the port's set is answered UNKNOWN_KIND before any other check. -/
def State.takeRequest (s : State) (p : Port) (kind : Byte) (handler : List Byte → State → Answer) : State :=
  match s.waiting p with
  | none => s
  | some f =>
    if f.kind = kind then
      (s.takeFrame p).answer p f
        (if inRequestSet p kind then handler f.body (s.takeFrame p) else refuse .unknownKind)
    else s

/-- UNKNOWN_KIND (R168): port p takes a frame whose kind is not in its request set. -/
def State.takeUnknown (s : State) (p : Port) : State :=
  match s.waiting p with
  | none => s
  | some f => if inRequestSet p f.kind then s else (s.takeFrame p).answer p f (refuse .unknownKind)

def execUnknownKind (port : Port) (s : State) : Host.Outcome State Fault Refusal := .next (s.takeUnknown port)

end Sys2Proof.Machine
end

