-- ==== Sys2Proof/Machine/Tally.lean ====
section
/-! DEFINITION. The tally unit (Chapter 9): the run table and its requests, the switch at the scanner, the counting at
the saw line, the closing test. -/

namespace Sys2Proof.Machine

/-! ### The switch of the board line run (R144) -/

/-- The run records for which `p` holds changed by `f`. -/
def State.mapRuns (s : State) (p : Run → Bool) (f : Run → Run) : State :=
  s.setRuns (s.tally.runs.map fun r => if p r then f r else r)

/-- R144: the OPEN run becomes CLOSING with end tag S − 1 if it had none. -/
def Run.supersede (serial : Tag) (r : Run) : Run :=
  { r with state := .closing, endTag := some (r.endTag.getD (serial - 1#16)) }

/-- R144: the switch before the record for the new serial is created. -/
def State.runSwitch (s : State) : State :=
  match s.pendingRun with
  | none => s
  | some p =>
    if p.startTag = s.tracker.serial then
      (s.mapRuns (fun r => r.state == .isOpen) (Run.supersede s.tracker.serial)).mapRuns
        (fun r => r.state == .pending) (fun r => { r with state := .isOpen })
    else s

/-- R144: the OPEN run whose end tag is the new serial becomes CLOSING, after the record is created. -/
def State.endAtSerial (s : State) : State :=
  s.mapRuns (fun r => r.state == .isOpen && r.endTag == some s.tracker.serial) (fun r => { r with state := .closing })

/-! ### Closing (R146, R151) -/

/-- R146: whether the ring holds a record of a run before the saw line. -/
def State.runHolds (s : State) (id : Nat) : Bool := s.tracker.ring.any fun b => b.run == some id && b.state != .cut

/-- One run closed, with its RUN_CLOSED report (R146). -/
def State.closeRun (cause : CloseCause) (s : State) (r : Run) : State :=
  (s.mapRuns (fun q => q.id == r.id) (fun q => { q with state := .closed })).offer .line 0x4C#8 (runClosedBytes r cause)

/-- The CLOSING runs for which `p` holds closed, in table order, which is the order of their start tags (log entry 20). -/
def State.closeRuns (s : State) (cause : CloseCause) (p : Run → Bool) : State :=
  (s.tally.runs.filter fun r => r.state == .closing && p r).foldl (State.closeRun cause) s

/-- R146: the closing test of a lug event. -/
def State.closingTest (s : State) : State := s.closeRuns .lug fun r => !s.runHolds r.id

/-! ### Counting at the saw line (R150) -/

/-- R150 step 1: the outcome counter of a decision with a normal outcome; none for a NO_RUN fallback. -/
def outcomeCounter : Chosen → Option Nat
  | .piece _ _ (.index _) => some pieceGradedCounter
  | .piece _ _ .ungraded => some pieceUngradedCounter
  | .waste _ => some wasteCounter
  | .pass => some passCounter
  | .fallback c => fallbackCounter c

/-- R150 steps 1 and 2 for a normal outcome: the outcome counter and the cell, each with what is added. -/
def normalCounts (d : FinalDecision) : List (Nat × Nat) :=
  (match outcomeCounter d.what with
    | some k => [(k, 1)]
    | none => []) ++
  (match d.what with
    | .piece i j (.index g) => [(cellCounter g (j - i), 1)]
    | _ => [])

/-- R150 steps 5 and 6 for a normal outcome: the value sum and the piece length sum. -/
def normalSums (sp : Nat) (d : FinalDecision) : List (Nat × Nat) :=
  [(valueSumCounter, d.value)] ++
  (match d.what with
    | .piece i j (.index _) => [(lengthSumCounter, (j - i) * sp)]
    | _ => [])

/-- R150: all that a board past the saw line adds to its run's counters, in order. -/
def boardCounts (sp : Nat) (d : FinalDecision) (outcome : CutOutcome) : List (Nat × Nat) :=
  (match outcome with
    | .mismatch => [(mismatchCounter, 1)]
    | .normal => normalCounts d) ++
  [(sourceCounter d.source, 1)] ++
  (if d.flags.reduced then [(reducedCounter, 1)] else []) ++
  (match outcome with
    | .mismatch => []
    | .normal => normalSums sp d)

/-- Additions to the counters of a run, in order. -/
def State.countAll (s : State) (id : Nat) (adds : List (Nat × Nat)) : State :=
  adds.foldl (fun x a => x.count id a.1 a.2) s

/-- R150, R153: a board handed to the tally unit at its saw-line event. -/
def State.tallyBoard (s : State) (b : Board) (outcome : CutOutcome) : State :=
  match b.run, b.decision with
  | none, _ => s.mapFigures fun u => { u with cut := satAdd Config.max32 u.cut 1 }
  | some id, some d => s.countAll id (boardCounts s.config.sp d outcome)
  | some _, none => s

/-! ### Counting at LINE_RESET (R151) -/

/-- A board counted as DISCARDED in its run or in the unattributed figures. -/
def State.countDiscarded (s : State) (run : Option Nat) : State :=
  match run with
  | none => s.mapFigures fun u => { u with discarded := satAdd Config.max32 u.discarded 1 }
  | some id => s.count id discardedCounter 1

/-- R151: a SCANNING record counted as scanned, its board number left unset. -/
def State.countScanning (s : State) (run : Option Nat) : State :=
  match run with
  | none => s.mapFigures fun u => { u with scanned := satAdd Config.max32 u.scanned 1 }
  | some id => s.count id scannedCounter 1

/-- R151: what LINE_RESET counts for one record of the ring. -/
def State.countReset (s : State) (b : Board) : State :=
  match b.state with
  | .cut => s
  | .scanning =>
    match b.window with
    | some w => if w.any (fun v => v.present || v.outcome == .poison) then (s.countScanning b.run).countDiscarded b.run else s
    | none => s
  | .queued => s.countDiscarded b.run
  | .evaluating => s.countDiscarded b.run
  | .decided => s.countDiscarded b.run
  | .committed => s.countDiscarded b.run

/-! ### The run requests -/

/-- The distance of a tag ahead of the lug serial (R143). -/
def State.distance (s : State) (t : Tag) : Nat := (t - s.tracker.serial).toNat

/-- R143 check 7: the start tag's allowed distance. -/
def State.startAllowed (s : State) (t : Tag) : Bool :=
  decide (1 ≤ s.distance t) && decide (s.distance t ≤ 30000) &&
    (match s.openRun with
      | some r =>
        match r.endTag with
        | some e => decide (s.distance e < s.distance t)
        | none => true
      | none => true)

/-- R143: the record a RUN_START places in the table. -/
def newRun (key : Nat) (f : StartForm) (start : Tag) : Run :=
  { key := key, id := f.id, bank := f.bank, thickness := f.thickness, width := f.width, state := .pending,
    startTag := start, endTag := none, counters := List.replicate counterCount { value := 0, saturated := false } }

/-- R143, R148: an accepted RUN_START. -/
def State.startRun (f : StartForm) (start : Tag) (s : State) : State :=
  { s with
    tally :=
      { s.tally with
        runs := s.tally.runs ++ [newRun s.tally.nextKey f start]
        logRun := some s.tally.nextKey
        nextKey := s.tally.nextKey + 1 } }

def answerRunStart (body : List Byte) (s : State) : Answer :=
  match parseStart body with
  | none => refuse .badFormat
  | some f =>
    let start := f.start.getD (s.tracker.serial + 1#16)
    if f.id = 0 ∨ ¬(10 ≤ f.thickness ∧ f.thickness ≤ 400) ∨ ¬(10 ≤ f.width ∧ f.width ≤ 400) then refuse .outOfRange
    else if (s.findRun f.id).isSome then refuse .duplicate
    else if Config.runPlaces ≤ s.tally.runs.length then refuse .runTableFull
    else if s.pendingRun.isSome then refuse .badState
    else if (s.bank f.bank).state ≠ .loaded then refuse .badState
    else if s.startAllowed start then accept (le2 start.toNat) (State.startRun f start)
    else refuse .outOfRange

def execRunStart (port : Port) (s : State) : Host.Outcome State Fault Refusal :=
  .next (s.takeRequest port 0x0F#8 answerRunStart)

/-- R145 check 4: the end tag's allowed distance. -/
def State.endAllowed (s : State) (t : Tag) : Bool :=
  decide (s.distance t ≤ 30000) &&
    (match s.pendingRun with
      | some p => decide (s.distance t < s.distance p.startTag)
      | none => true)

/-- R145, R148: an accepted RUN_END. -/
def State.endRun (r : Run) (t : Tag) (s : State) : State :=
  let s1 := s.mapRuns (fun q => q.id == r.id) fun q =>
    { q with endTag := some t, state := if t = s.tracker.serial then .closing else q.state }
  if s1.tally.logRun = some r.key then { s1 with tally := { s1.tally with logRun := none } } else s1

def answerRunEnd (body : List Byte) (s : State) : Answer :=
  match parseEnd body with
  | none => refuse .badFormat
  | some f =>
    let stop := f.stop.getD s.tracker.serial
    match s.findRun f.id with
    | none => refuse .notFound
    | some r =>
      if r.state ≠ .isOpen ∨ r.endTag.isSome then refuse .badState
      else if s.endAllowed stop then accept (le2 stop.toNat) (State.endRun r stop)
      else refuse .outOfRange

def execRunEnd (port : Port) (s : State) : Host.Outcome State Fault Refusal :=
  .next (s.takeRequest port 0x10#8 answerRunEnd)

/-- R147: the run of an id removed from the table. -/
def State.freeRun (id : Nat) (s : State) : State := s.setRuns (s.tally.runs.filter fun r => r.id ≠ id)

def answerRunFree (body : List Byte) (s : State) : Answer :=
  if body.length ≠ 2 then refuse .badFormat
  else
    match s.findRun (halfAt body 0) with
    | none => refuse .notFound
    | some r => if r.state = .closed then accept [] (State.freeRun r.id) else refuse .badState

def execRunFree (port : Port) (s : State) : Host.Outcome State Fault Refusal :=
  .next (s.takeRequest port 0x11#8 answerRunFree)

/-- R154, R185. -/
def answerTallyRead (body : List Byte) (s : State) : Answer :=
  match (if body.length = 3 then parseSection (byteAt body 2) else none) with
  | none => refuse .badFormat
  | some sec =>
    match s.findRun (halfAt body 0) with
    | none => refuse .notFound
    | some r => accept (tallyHeading (Config.filler s.draws 0) r ++ tallySection r sec) id

def execTallyRead (port : Port) (s : State) : Host.Outcome State Fault Refusal :=
  .next (s.takeRequest port 0x12#8 answerTallyRead)

end Sys2Proof.Machine
end

