-- ==== Sys2Proof/Machine/LogScaler.lean ====
section
/-! DEFINITION. The log scaler (Chapter 3): the frames of the log head, the scaling of a log, the accounting against its
booking, LOG_QUERY. -/

namespace Sys2Proof.Machine

/-! ### Booking and accounting (R39) -/

/-- R39: the booking of a log that begins now. -/
def State.bookingNow (s : State) : Option Booking :=
  match s.tally.logRun with
  | none => none
  | some key => (s.tally.runs.find? fun r => r.key == key).map fun r => { key := key, id := r.id }

/-- R39: the id of the booked run record if it is still in the table. -/
def State.bookedRun (s : State) (b : Option Booking) : Option Nat :=
  match b with
  | none => none
  | some k => (s.tally.runs.find? fun r => r.key == k.key).map fun r => r.id

/-- One debris against a booking (R39, R43). -/
def State.countDebris (s : State) (b : Option Booking) : State :=
  match s.bookedRun b with
  | some id => s.count id debrisCounter 1
  | none => s.mapFigures fun u => { u with debris := satAdd Config.max32 u.debris 1 }

/-! ### Scaling (R43 to R46) -/

/-- R43: the greatest diameter a sample is taken at. -/
def clampDiameter (d : Nat) : Nat := min 1500 d

/-- R43: the span, from the first nonzero sample to the last. -/
def spanOf (samples : List Nat) : List Nat :=
  ((samples.dropWhile (fun d => d == 0)).reverse.dropWhile (fun d => d == 0)).reverse

/-- R44: each sample of a span with its held value, `prev` being the value of the sample before. -/
def holdValues : Nat → List Nat → List Nat
  | _, [] => []
  | prev, d :: ds => if d = 0 then prev :: holdValues prev ds else d :: holdValues d ds

/-- R44: whether a run of more than 3 consecutive held samples stands in a span, `run` held ones going before. -/
def longHold : Nat → List Nat → Bool
  | _, [] => false
  | run, d :: ds => if d = 0 then decide (3 < run + 1) || longHold (run + 1) ds else longHold 0 ds

/-- R46: litres of the sum of squares. -/
def litresOf (sumOfSquares : Nat) : Nat := (sumOfSquares * 7854 + 50000000) / 100000000

/-- What a span gives (R44 to R46). -/
structure Scaled where
  length : Nat
  sed : Nat
  led : Nat
  litres : Nat
  suspect : Bool
deriving DecidableEq, Repr

/-- R43 to R46: the samples scaled; none when the log is debris. -/
def scale (samples : List Nat) : Option Scaled :=
  let span := spanOf (samples.map clampDiameter)
  if span.length < 5 then none
  else
    some
      { length := 100 * span.length
        sed := (span.filter fun d => d != 0).foldl min 1500
        led := span.foldl max 0
        litres := litresOf ((holdValues 0 span).map fun d => d * d).sum
        suspect := samples.any (fun d => decide (1500 < d)) || longHold 0 span }

/-! ### The frames (R37, R40 to R42, R47, R48) -/

def State.setLogs (s : State) (l : LogScaler) : State := { s with logs := l }

/-- R40: a log in progress discarded as debris, if there is one. The scaler is left IDLE. -/
def State.discardLog (s : State) : State :=
  match s.logs.current with
  | none => s
  | some l => (s.setLogs { s.logs with current := none }).countDebris l.booking

/-- R40: a LOG_BEGIN taken; a corrupt one sets SUSPECT (R37). -/
def State.beginLog (s : State) (suspect : Bool) : State :=
  let s1 := s.discardLog
  s1.setLogs
    { s1.logs with current := some { booking := s1.bookingNow, samples := [], overlength := false, suspect := suspect } }

/-- LOG_BEGIN in any line state; while a PART_RESET completes the frame is discarded (R163). -/
def execLogBegin (_serial : Tag) (frameOk : Bool) (_body : List Byte) (s : State) : Host.Outcome State Fault Refusal :=
  if s.line.resetting then .next s else .next (s.beginLog !frameOk)

/-- R41: diameters appended to a log in progress; those past the 120th are dropped and set OVERLENGTH. -/
def LogInProgress.append (l : LogInProgress) (ds : List Nat) : LogInProgress :=
  { l with
    samples := l.samples ++ ds.take (Config.logSamplePlaces - l.samples.length)
    overlength := l.overlength || decide (Config.logSamplePlaces < l.samples.length + ds.length) }

/-- R37, R41: a LOG_SAMPLES taken, with its diameters or corrupt. -/
def State.logSamples (s : State) (diameters : Option (List Nat)) : State :=
  match s.logs.current with
  | none => s
  | some l =>
    match diameters with
    | some ds => s.setLogs { s.logs with current := some (l.append ds) }
    | none => s.setLogs { s.logs with current := some { l with suspect := true } }

def execLogSamples (_serial : Tag) (frameOk : Bool) (body : List Byte) (s : State) : Host.Outcome State Fault Refusal :=
  if s.line.resetting then .next s else .next (s.logSamples (if frameOk then parseLogSamples body else none))

/-- R47: the record of a scaled log, created now. -/
def State.logRecord (s : State) (l : LogInProgress) (z : Scaled) : LogRecord :=
  { sequence := s.logs.nextSequence, run := l.booking.map (fun b => b.id), length := z.length, sed := z.sed, led := z.led,
    litres := z.litres, suspect := l.suspect || z.suspect, overlength := l.overlength,
    unattributed := (s.bookedRun l.booking).isNone }

/-- R47: a record put into the log record memory, which keeps the 8 most recent, and the sequence number advanced. -/
def LogScaler.remember (g : LogScaler) (r : LogRecord) : LogScaler :=
  { g with
    memory := (g.memory ++ [r]).drop (g.memory.length + 1 - Config.logMemoryPlaces)
    nextSequence := g.nextSequence + 1#32 }

/-- R48 step 2: the figures of a record accounted against its booking. -/
def State.accountLog (s : State) (b : Option Booking) (r : LogRecord) : State :=
  match s.bookedRun b with
  | some id =>
    s.countAll id ([(logCountCounter, 1), (logLitresCounter, r.litres)] ++ if r.suspect then [(suspectCounter, 1)] else [])
  | none =>
    s.mapFigures fun u =>
      { u with logs := satAdd Config.max32 u.logs 1, litres := satAdd Config.max32 u.litres r.litres }

/-- R48: a record handed on. LOG_SCALED is the third member of the report selection (R186). -/
def State.handLog (s : State) (b : Option Booking) (r : LogRecord) : State :=
  let s1 := (s.setLogs (s.logs.remember r)).accountLog b r
  let s2 := if s1.selection.getLsbD 2 then s1.offer .line 0x43#8 (logRecordBytes r) else s1
  if r.suspect then s2.notice (.logSuspect r.sequence) else s2

/-- R42: a LOG_END taken; a corrupt one sets SUSPECT first (R37). -/
def State.endLog (s : State) (suspect : Bool) : State :=
  match s.logs.current with
  | none => s
  | some l0 =>
    let l := { l0 with suspect := l0.suspect || suspect }
    let s1 := s.setLogs { s.logs with current := none }
    match scale l.samples with
    | none => s1.countDebris l.booking
    | some z => s1.handLog l.booking (s1.logRecord l z)

def execLogEnd (_serial : Tag) (frameOk : Bool) (_body : List Byte) (s : State) : Host.Outcome State Fault Refusal :=
  if s.line.resetting then .next s else .next (s.endLog !frameOk)

/-! ### LOG_QUERY (R49) -/

/-- The scaler's state and the log in progress, as LOG_QUERY carries them (R49, R189). -/
def scalerBytes (g : LogScaler) : List Byte :=
  match g.current with
  | none => [0x00#8]
  | some l =>
    [0x01#8] ++ runBytes (l.booking.map fun b => b.id) ++
      [byteOf l.samples.length, byteOf (logFlagsMask l.suspect l.overlength false)]

def logQueryTail (g : LogScaler) : List Byte := le4 g.nextSequence.toNat ++ scalerBytes g

def answerLogQuery (body : List Byte) (s : State) : Answer :=
  match parseLogQuery body with
  | none => refuse .badFormat
  | some none =>
    accept (byteOf s.logs.memory.length :: s.logs.memory.flatMap logRecordBytes ++ logQueryTail s.logs) id
  | some (some q) =>
    match s.logs.memory.find? fun r => r.sequence = q with
    | some r => accept (logRecordBytes r ++ logQueryTail s.logs) id
    | none => refuse .notFound

def execLogQuery (port : Port) (s : State) : Host.Outcome State Fault Refusal :=
  .next (s.takeRequest port 0x13#8 answerLogQuery)

end Sys2Proof.Machine
end

