-- ==== Sys2Proof/Machine/RuleStore.lean ====
section
/-! DEFINITION. The rule store (Chapter 4): opening and closing a bank, the load window and its cursor, TABLE_DATA,
TABLE_READ. -/

namespace Sys2Proof.Machine

def State.setWindow (s : State) (w : Option LoadWindow) : State := { s with rules := { s.rules with window := w } }

/-! ### BANK_OPEN (R58) -/

/-- R58: a bank opened: an EMPTY bank takes the empty contents, any other keeps its own. -/
def Bank.opened (b : Bank) : Bank :=
  match b.state with
  | .empty => { state := .loading, cells := [] }
  | .loading => b
  | .loaded => { b with state := .loading }

def State.openBank (n : BankName) (s : State) : State := (s.setBank n (s.bank n).opened).setWindow none

def answerBankOpen (body : List Byte) (s : State) : Answer :=
  match parseBank body with
  | none => refuse .badFormat
  | some n => if s.bankInUse n then refuse .bankInUse else accept [] (State.openBank n)

def execBankOpen (port : Port) (s : State) : Host.Outcome State Fault Refusal :=
  .next (s.takeRequest port 0x0A#8 answerBankOpen)

/-! ### TABLE_WINDOW (R59) -/

/-- R59 check 2: both ranges in order and inside the table. -/
def windowFits (w : LoadWindow) : Bool :=
  decide (w.firstRow ≤ w.lastRow) && decide (w.firstCol ≤ w.lastCol) &&
    decide ((tableRows w.table).1 ≤ w.firstRow) && decide (w.lastRow ≤ (tableRows w.table).2) &&
    decide ((tableCols w.table).1 ≤ w.firstCol) && decide (w.lastCol ≤ (tableCols w.table).2)

def answerTableWindow (body : List Byte) (s : State) : Answer :=
  match parseWindow body with
  | none => refuse .badFormat
  | some w =>
    if (s.bank w.bank).state ≠ .loading then refuse .badState
    else if windowFits w then accept [] fun x => x.setWindow (some w)
    else refuse .outOfRange

def execTableWindow (port : Port) (s : State) : Host.Outcome State Fault Refusal :=
  .next (s.takeRequest port 0x0B#8 answerTableWindow)

/-! ### TABLE_DATA (R60, R61) -/

/-- R60: the window after a value is written at its cursor. -/
def LoadWindow.advance (w : LoadWindow) : LoadWindow :=
  if w.row = w.lastRow ∧ w.col = w.lastCol then
    match w.overflow with
    | .ignore => { w with exhausted := true }
    | .wrap => { w with row := w.firstRow, col := w.firstCol }
  else
    match w.order with
    | .rows => if w.col < w.lastCol then { w with col := w.col + 1 } else { w with row := w.row + 1, col := w.firstCol }
    | .columns => if w.row < w.lastRow then { w with row := w.row + 1 } else { w with row := w.firstRow, col := w.col + 1 }

/-- R61: a value brought into the range of a cell. -/
def clampCell (t : Table) (col v : Nat) : Nat := min (cellRange t col).2 (max (cellRange t col).1 v)

/-- A TABLE_DATA on its way: the window, the cells of its bank, and the counts (R61). -/
structure Load where
  window : LoadWindow
  cells : List Cell
  written : Nat
  clamped : Nat
  ignored : Nat
deriving DecidableEq, Repr

/-- R61: one value. -/
def Load.put (l : Load) (v : Nat) : Load :=
  if l.window.exhausted then { l with ignored := l.ignored + 1 }
  else
    let x := clampCell l.window.table l.window.col v
    { window := l.window.advance
      cells := writeCell l.cells (cellKey l.window.table l.window.row l.window.col) (BitVec.ofNat 16 x)
      written := l.written + 1
      clamped := if x = v then l.clamped else l.clamped + 1
      ignored := l.ignored }

/-- R61: the values of a request, in order, through a window. -/
def State.load (s : State) (w : LoadWindow) (values : List Nat) : Load :=
  values.foldl Load.put { window := w, cells := (s.bank w.bank).cells, written := 0, clamped := 0, ignored := 0 }

/-- The outcome of a TABLE_DATA stored: the bank's cells and the window. -/
def State.storeLoad (l : Load) (s : State) : State :=
  (s.setBank l.window.bank { s.bank l.window.bank with cells := l.cells }).setWindow (some l.window)

def answerTableData (body : List Byte) (s : State) : Answer :=
  match parseData body with
  | none => refuse .badFormat
  | some values =>
    match s.rules.window with
    | none => refuse .badState
    | some w =>
      let l := s.load w values
      accept
        [byteOf l.written, byteOf l.clamped, byteOf l.ignored, byteOf l.window.row, byteOf l.window.col,
          flagByte l.window.exhausted]
        (State.storeLoad l)

def execTableData (port : Port) (s : State) : Host.Outcome State Fault Refusal :=
  .next (s.takeRequest port 0x0C#8 answerTableData)

/-! ### BANK_CLOSE (R62, R63) -/

/-- A failing cell: table, row and column (R63). -/
structure BadCell where
  table : Table
  row : Nat
  col : Nat
deriving DecidableEq, Repr

/-- A character that prints or is a space (R54). -/
def printable (n : Nat) : Bool := decide (0x20 ≤ n) && decide (n ≤ 0x7E)

/-- R54: the operands valid for a stamp code. -/
def validOperand (code operand : Nat) : Bool :=
  match code with
  | 1 => printable operand
  | 4 => decide (1 ≤ operand) && decide (operand ≤ 5)
  | 5 => decide (1 ≤ operand) && decide (operand ≤ 5)
  | 6 => printable operand
  | 7 => decide (1 ≤ operand) && decide (operand ≤ 12)
  | 8 => printable operand
  | _ => true

/-- R62 steps 1 to 3. -/
def checkParams (b : Bank) : Option BadCell :=
  if ¬(1 ≤ gradeCount b ∧ gradeCount b ≤ 8) then some { table := .params, row := 0, col := 0 }
  else if 8 < blindCap b then some { table := .params, row := 0, col := 1 }
  else if 8 < staleCap b then some { table := .params, row := 0, col := 2 }
  else if ¬(1 ≤ minLengthIndex b ∧ minLengthIndex b ≤ 12) then some { table := .params, row := 0, col := 3 }
  else none

/-- R62 step 4. -/
def checkNames (b : Bank) : Option BadCell :=
  ((List.range (gradeCount b)).find? fun g => rowText b .names g == []).map fun g => { table := .names, row := g, col := 0 }

/-- R62 step 5 from a row on, `ended` saying whether an END row went before. -/
def checkStampFrom (b : Bank) : Bool → List Nat → Option BadCell
  | _, [] => none
  | ended, row :: rows =>
    let code := cellValue b .stamp row 0
    if 8 < code ∨ (ended ∧ code ≠ 0) then some { table := .stamp, row := row, col := 0 }
    else if !validOperand code (cellValue b .stamp row 1) then some { table := .stamp, row := row, col := 1 }
    else checkStampFrom b (ended || code == 0) rows

def checkStamp (b : Bank) : Option BadCell := checkStampFrom b false (List.range 16)

/-- R62: the first failing cell of a bank, none when it passes. -/
def checkBank (b : Bank) : Option BadCell :=
  match checkParams b with
  | some c => some c
  | none =>
    match checkNames b with
    | some c => some c
    | none => checkStamp b

/-- R63: the INVALID reply, with the bank's state LOADING. -/
def invalidReply (c : BadCell) : List Byte :=
  [resultCode .invalid, byteOf (tableCode c.table), byteOf c.row, byteOf c.col, byteOf (bankStateCode .loading)]

/-- R62: a bank that passed its check becomes LOADED, and the window is ended. -/
def State.closeBank (n : BankName) (s : State) : State :=
  (s.setBank n { s.bank n with state := .loaded }).setWindow none

def answerBankClose (body : List Byte) (s : State) : Answer :=
  match parseBank body with
  | none => refuse .badFormat
  | some n =>
    if (s.bank n).state ≠ .loading then refuse .badState
    else
      match checkBank (s.bank n) with
      | some c => { reply := invalidReply c, effect := fun x => x.setWindow none }
      | none => accept [] (State.closeBank n)

def execBankClose (port : Port) (s : State) : Host.Outcome State Fault Refusal :=
  .next (s.takeRequest port 0x0D#8 answerBankClose)

/-! ### TABLE_READ (R64) -/

/-- R64: the values of up to `count` cells of a table in row-major order from a starting cell. -/
def readCells (b : Bank) (f : ReadForm) : List Nat :=
  let cols := tableCols f.table
  let rows := tableRows f.table
  let width := cols.2 + 1 - cols.1
  let start := (f.row - rows.1) * width + (f.col - cols.1)
  let total := (rows.2 + 1 - rows.1) * width
  ((List.range f.count).filter fun k => decide (start + k < total)).map fun k =>
    cellValue b f.table (rows.1 + (start + k) / width) (cols.1 + (start + k) % width)

def answerTableRead (body : List Byte) (s : State) : Answer :=
  match parseRead body with
  | none => refuse .badFormat
  | some f =>
    if (tableRows f.table).1 ≤ f.row ∧ f.row ≤ (tableRows f.table).2 ∧ (tableCols f.table).1 ≤ f.col ∧
        f.col ≤ (tableCols f.table).2 then
      let values := readCells (s.bank f.bank) f
      accept (byteOf values.length :: values.flatMap le2 ++ [byteOf (bankStateCode (s.bank f.bank).state)]) id
    else refuse .outOfRange

def execTableRead (port : Port) (s : State) : Host.Outcome State Fault Refusal :=
  .next (s.takeRequest port 0x0E#8 answerTableRead)

end Sys2Proof.Machine
end

