-- ==== Sys2Proof/Machine/Commit.lean ====
section
/-! DEFINITION. The commit unit (Chapter 6): the resolution of ownership at a horizon event, the choice of the decision,
the saw check, value, bin and stamp, and what a commit hands on. -/

namespace Sys2Proof.Machine

/-! ### Ownership at the horizon (R91, R111) -/

def State.setOwnership (s : State) (o : Ownership) : State := { s with trimmer := { s.trimmer with ownership := o } }

def State.setManualPattern (s : State) (p : ManualPattern) : State := { s with trimmer := { s.trimmer with pattern := p } }

/-- R111: a pending change of ownership resolved. -/
def State.resolveOwnership (s : State) : State :=
  match s.trimmer.ownership with
  | .auto => s
  | .manual => s
  | .takePending => (s.setOwnership .manual).reportOwner .resolved s.horizonTag
  | .releasePending _ =>
    (((s.setOwnership .auto).setManualPattern .pass).reportOwner .resolved s.horizonTag).clearValueLoss

/-! ### Choosing the decision (R92 to R96) -/

/-- A chosen decision: whether an override decided it (R93), which flags an advisory decision lends it (R105), and
whether it is the LATE fallback of case 5 (R95). -/
structure Choice where
  what : Chosen
  applied : Bool
  reduced : Bool
  capped : Bool
  late : Bool
deriving DecidableEq, Repr

/-- A choice that takes no flag from an advisory decision. -/
def plainChoice (what : Chosen) (applied : Bool) : Choice :=
  { what := what, applied := applied, reduced := false, capped := false, late := false }

/-- R96: the saw set of a WASTE formed at the commit. -/
def State.wasteAtCommit (s : State) (b : Board) : SawSet :=
  sawsWhere s.config.sn fun k => s.sawIn k && decide (sawPosition s.config k < b.length.getD 0)

/-- R93: the grade of a SET_TRIM at the commit. -/
def trimGrade (o : Override) : Grade :=
  match o.result with
  | some r => .index r.grade
  | none => .ungraded

/-- R93: case 2; none when the override is unused. -/
def State.overrideChoice (s : State) (b : Board) (o : Override) : Option Choice :=
  match o.kind with
  | .waste => some (plainChoice (.waste (s.wasteAtCommit b)) true)
  | .pass => some (plainChoice .pass true)
  | .setBoth i j g => some (plainChoice (.piece i j (.index g)) true)
  | .setTrim i j => some (plainChoice (.piece i j (trimGrade o)) true)
  | .setGrade g =>
    match b.advisory with
    | some (.piece i j _ _ reduced _) => some { plainChoice (.piece i j (.index g)) true with reduced := reduced }
    | _ => none

/-- R94: case 3. -/
def State.manualChoice (s : State) (b : Board) : Choice :=
  match s.trimmer.pattern with
  | .pass => plainChoice .pass false
  | .waste => plainChoice (.waste (s.wasteAtCommit b)) false
  | .piece i j g =>
    if b.length.getD 0 < sawPosition s.config j then plainChoice (.fallback .noFit) false
    else plainChoice (.piece i j g) false

/-- R95: case 4. -/
def advisoryChoice : Advisory → Choice
  | .piece i j g _ reduced capped =>
    { what := .piece i j (.index g), applied := false, reduced := reduced, capped := capped, late := false }
  | .waste saws reduced => { plainChoice (.waste saws) false with reduced := reduced }
  | .fallback c => plainChoice (.fallback c) false

/-- R92: cases 3 to 5. -/
def State.chooseWithout (s : State) (b : Board) : Choice :=
  if s.trimmer.ownership = .manual then s.manualChoice b
  else
    match b.advisory with
    | some a => advisoryChoice a
    | none => { plainChoice (.fallback .late) false with late := true }

/-- R92: the chosen decision. -/
def State.choose (s : State) (b : Board) : Choice :=
  if b.tracking then plainChoice (.fallback .tracking) false
  else
    match b.override with
    | some o => (s.overrideChoice b o).getD (s.chooseWithout b)
    | none => s.chooseWithout b

/-- R93: whether the record's override is found unused at the commit. -/
def State.overrideUnused (s : State) (b : Board) : Bool :=
  !b.tracking &&
    (match b.override with
      | some o => (s.overrideChoice b o).isNone
      | none => false)

/-- R97: whether every saw a decision would drop is IN. -/
def State.sawsIn (s : State) : Chosen → Bool
  | .piece i j _ => s.sawIn i && s.sawIn j
  | .waste saws => (sawList saws).all s.sawIn
  | .pass => true
  | .fallback _ => true

/-- R97: the chosen decision after the saw check; a SAW_OUT fallback keeps no pair, so it keeps neither REDUCED nor
CAPPED (log entry 18). -/
def State.checkSaws (s : State) (c : Choice) : Choice :=
  if s.sawsIn c.what then c else { c with what := .fallback .sawOut, reduced := false, capped := false }

/-- R100: a piece on a board with no bank is UNGRADED. -/
def ungradeWithoutBank (hasBank : Bool) : Chosen → Chosen
  | .piece i j g => .piece i j (if hasBank then g else .ungraded)
  | .waste saws => .waste saws
  | .pass => .pass
  | .fallback c => .fallback c

/-- R100: the NO_BANK flag. -/
def noBankFlag (hasBank : Bool) : Chosen → Bool
  | .piece .. => !hasBank
  | _ => false

/-! ### Source, value and bin (R98, R99, R101) -/

/-- R98. -/
def State.sourceOf (s : State) (b : Board) (applied : Bool) : Source :=
  match applied, b.override with
  | true, some o =>
    match o.fromPort with
    | .console => .console
    | .line => .host
  | _, _ => if s.trimmer.ownership = .manual then .manual else .auto

/-- R99. -/
def valueOf (bank : Option Bank) : Chosen → Nat
  | .piece i j (.index g) =>
    match bank with
    | some bk => cellValue bk .price g (j - i)
    | none => 0
  | _ => 0

/-- A bin with the flags that tell how it was found (R101). -/
structure BinChoice where
  bin : Option Nat
  altBin : Bool
  binDefault : Bool
deriving DecidableEq, Repr

/-- R101: the three steps for a graded piece. -/
def gradedBin (full : BitVec 64) (bk : Bank) (g n : Nat) : BinChoice :=
  let b := cellValue bk .bins g n
  let a := cellValue bk .altBins 0 b
  if b = 0 ∨ full.getLsbD b = false then { bin := some b, altBin := false, binDefault := false }
  else if a ≠ 0 ∧ full.getLsbD a = false then { bin := some a, altBin := true, binDefault := false }
  else { bin := some 0, altBin := false, binDefault := true }

/-- R101. -/
def binOf (full : BitVec 64) (bank : Option Bank) : Chosen → BinChoice
  | .piece i j (.index g) =>
    match bank with
    | some bk => gradedBin full bk g (j - i)
    | none => { bin := some 0, altBin := false, binDefault := false }
  | .waste _ => { bin := none, altBin := false, binDefault := false }
  | _ => { bin := some 0, altBin := false, binDefault := false }

/-! ### The stamp (R102 to R104) -/

/-- A stamp being composed (R102 to R104). -/
structure Stamping where
  text : List Byte
  fill : Byte
  truncated : Bool
deriving DecidableEq, Repr

/-- R104: characters appended; those past the twelfth are dropped and set TRUNCATED. -/
def Stamping.append (z : Stamping) (chars : List Byte) : Stamping :=
  { z with
    text := z.text ++ chars.take (Config.stampPlaces - z.text.length)
    truncated := z.truncated || decide (Config.stampPlaces < z.text.length + chars.length) }

/-- R103: n decimal digits of a number modulo 10ⁿ, leading zeros but the last written as the fill character. -/
def digits (fill : Byte) (n v : Nat) : List Byte :=
  (List.range n).map fun k =>
    let rest := v % 10 ^ n / 10 ^ (n - 1 - k)
    if rest = 0 ∧ k + 1 < n then fill else byteOf (0x30 + rest % 10)

/-- What the stamp items read (R103). -/
structure StampSource where
  bank : Bank
  i : Nat
  j : Nat
  grade : Grade
  run : Nat
  number : Nat
  source : Source

/-- R103: the characters of GRADE_NAME; "?" for an UNGRADED piece. -/
def gradeName (bk : Bank) : Grade → List Byte
  | .index g => rowText bk .names g
  | .ungraded => [0x3F#8]

/-- R103: one item of the pattern, by its code and operand. -/
def stampItem (x : StampSource) (z : Stamping) (code operand : Nat) : Stamping :=
  match code with
  | 1 => z.append [byteOf operand]
  | 2 => z.append (gradeName x.bank x.grade)
  | 3 => z.append (rowText x.bank .labels (x.j - x.i))
  | 4 => z.append (digits z.fill operand x.run)
  | 5 => z.append (digits z.fill operand x.number)
  | 6 => z.append [if x.source = .auto then z.fill else byteOf operand]
  | 7 => z.append (List.replicate operand z.fill)
  | 8 => { z with fill := byteOf operand }
  | _ => z

/-- R102: the items from a row on, up to the first END. -/
def stampItems (x : StampSource) : List Nat → Stamping → Stamping
  | [], z => z
  | row :: rows, z =>
    if cellValue x.bank .stamp row 0 = 0 then z
    else stampItems x rows (stampItem x z (cellValue x.bank .stamp row 0) (cellValue x.bank .stamp row 1))

/-- R102: the stamp of a piece composed from its bank's pattern. -/
def composeStamp (x : StampSource) : Stamping :=
  stampItems x (List.range 16) { text := [], fill := 0x20#8, truncated := false }

/-- R102, R100: the FALLBACK_STAMP text of a board's bank, empty with no bank. -/
def fallbackText (bank : Option Bank) : List Byte :=
  match bank with
  | some bk => rowText bk .fallbackStamp 0
  | none => []

/-- R102: the stamp text of a decision, and whether it was truncated. -/
def stampOf (bank : Option Bank) (b : Board) (source : Source) : Chosen → Option (List Byte) × Bool
  | .piece i j g =>
    match bank with
    | some bk =>
      let z := composeStamp
        { bank := bk, i := i, j := j, grade := g, run := b.run.getD 0, number := b.number.getD 0, source := source }
      (some z.text, z.truncated)
    | none => (some [], false)
  | .waste _ => (none, false)
  | .pass => (some (fallbackText bank), false)
  | .fallback _ => (some (fallbackText bank), false)

/-! ### The commit (R105 to R107) -/

/-- The outcome of a commit: the final decision, the stamp text and whether the fallback is LATE's (R95). -/
structure Commitment where
  decision : FinalDecision
  stamp : Option (List Byte)
  late : Bool
deriving DecidableEq, Repr

/-- R92 to R105: the final decision of a board. -/
def State.commitment (s : State) (b : Board) : Commitment :=
  let c := s.checkSaws (s.choose b)
  let bank := s.boardBank b
  let what := ungradeWithoutBank bank.isSome c.what
  let source := s.sourceOf b c.applied
  let bin := binOf s.outfeed.binFull bank what
  let stamp := stampOf bank b source what
  { decision :=
      { what := what, value := valueOf bank what, source := source, bin := bin.bin
        flags :=
          { reduced := c.reduced, capped := c.capped, overrideUnused := s.overrideUnused b,
            noBank := noBankFlag bank.isSome what, altBin := bin.altBin, binDefault := bin.binDefault,
            truncated := stamp.2 } }
    stamp := stamp.1
    late := c.late }

/-- R105: a commitment written into a record. -/
def Board.commit (b : Board) (k : Commitment) : Board :=
  { b with
    state := .committed
    decision := some k.decision
    stamp := k.stamp
    override := b.override.map fun o => { o with unused := k.decision.flags.overrideUnused } }

/-- R130: an entry that joins the queue for a board already at D − 1 is applied at that moment. -/
def State.enqueuePattern (s : State) (e : PatternEntry) : State :=
  let s1 := { s with patterns := s.patterns ++ [e] }
  if e.tag = s.tagAtPosition (s.config.d - 1) then
    { s1 with outfeed := { s1.outfeed with applied := some { tag := e.tag, saws := e.saws } } }
  else s1

/-- R107 steps 1 and 2: DECISION, the first member of the report selection, and BOARD_VIEW. -/
def State.reportCommit (s : State) (b : Board) : State :=
  (if s.selection.getLsbD 0 then s.offer .line 0x40#8 (decisionReport b) else s).offer .console 0x42#8
    (boardViewReport b .commit)

/-- R107: what a commit hands on, in order. -/
def State.handCommit (s : State) (b : Board) (k : Commitment) : State :=
  let s1 := s.reportCommit b
  let s2 := if k.late then s1.notice (.lateFallback b.tag) else s1
  let s3 := if k.decision.flags.truncated then s2.notice (.stampTruncated b.tag) else s2
  if k.decision.source = .manual then s3.accountLoss b.advisory k.decision.value else s3

/-- R92 to R107: a board commits. The grading unit gives up its work for it in the same event (R73). -/
def State.commitBoard (s : State) (b : Board) : State :=
  let k := s.commitment b
  let s1 := (s.mapBoard b.tag fun x => x.commit k).abandonBoard b.tag
  let s2 := s1.enqueuePattern { tag := b.tag, saws := chosenSaws k.decision.what, bin := k.decision.bin }
  s2.handCommit (b.commit k) k

/-- R91: the horizon event of a lug event. Only a QUEUED, EVALUATING or DECIDED record commits (R11). -/
def State.horizonEvent (s : State) : State :=
  let s1 := s.resolveOwnership
  match s1.findBoard s1.horizonTag with
  | none => s1
  | some b =>
    match b.state with
    | .queued => s1.commitBoard b
    | .evaluating => s1.commitBoard b
    | .decided => s1.commitBoard b
    | .scanning => s1
    | .committed => s1
    | .cut => s1

end Sys2Proof.Machine
end

