-- ==== Sys2Proof/Machine/Trimmer.lean ====
section
/-! DEFINITION. The trimmer control (Chapter 7): requests of ownership, the console's silence, the manual pattern,
overrides, ATTENTION_CLEAR. -/

namespace Sys2Proof.Machine

/-! ### Ownership (R109, R110) -/

/-- R109: the effect of TAKE_TRIMMER. -/
def State.takeTrimmer (s : State) : State :=
  match s.trimmer.ownership with
  | .auto => (s.setOwnership .takePending).reportOwner .take s.nextHorizonTag
  | .takePending => s
  | .manual => s
  | .releasePending _ => (s.setOwnership .manual).reportOwner .take s.nextHorizonTag

def answerTakeTrimmer (body : List Byte) (s : State) : Answer :=
  if body ≠ [] then refuse .badFormat
  else if s.line.state = .configuring then refuse .badState
  else accept [] State.takeTrimmer

def execTakeTrimmer (port : Port) (s : State) : Host.Outcome State Fault Refusal :=
  .next (s.takeRequest port 0x1D#8 answerTakeTrimmer)

/-- The cause of the OWNER report for a release (R110, R114). -/
def ownerCauseOf : ReleaseCause → OwnerCause
  | .release => .release
  | .reclaim => .reclaim
  | .consoleLost => .consoleLost

/-- R110, R114: a release asked for by a request or by the console's silence. -/
def State.releaseFor (cause : ReleaseCause) (s : State) : State :=
  match s.trimmer.ownership with
  | .auto => s
  | .takePending =>
    ((s.setOwnership .auto).setManualPattern .pass).reportOwner (ownerCauseOf cause) s.nextHorizonTag
  | .manual => (s.setOwnership (.releasePending cause)).reportOwner (ownerCauseOf cause) s.nextHorizonTag
  | .releasePending _ => s

def answerReleaseTrimmer (body : List Byte) (_s : State) : Answer :=
  if body ≠ [] then refuse .badFormat else accept [] (State.releaseFor .release)

def execReleaseTrimmer (port : Port) (s : State) : Host.Outcome State Fault Refusal :=
  .next (s.takeRequest port 0x1E#8 answerReleaseTrimmer)

def answerReclaimTrimmer (body : List Byte) (_s : State) : Answer :=
  if body ≠ [] then refuse .badFormat else accept [] (State.releaseFor .reclaim)

def execReclaimTrimmer (port : Port) (s : State) : Host.Outcome State Fault Refusal :=
  .next (s.takeRequest port 0x14#8 answerReclaimTrimmer)

/-! ### Console silence (R113, R114) -/

def State.setTimer (s : State) (t : Option Nat) : State := { s with trimmer := { s.trimmer with timer := t } }

/-- R114: the silence timer expires, if it runs; it is then stopped. While a PART_RESET completes an expiry has no
effect (R163). -/
def State.silenceExpiry (s : State) : State :=
  match s.trimmer.timer with
  | none => s
  | some _ => if s.line.resetting then s.setTimer none else (s.setTimer none).releaseFor .consoleLost

def execSilenceTimerExpiry (s : State) : Host.Outcome State Fault Refusal := .next s.silenceExpiry

/-- One millisecond of the silence timer (log entry 3). -/
def State.tickTimer (s : State) : State :=
  match s.trimmer.timer with
  | none => s
  | some n => if n ≤ 1 then s.silenceExpiry else s.setTimer (some (n - 1))

/-! ### The manual pattern (R115) -/

/-- R115: whether a grade is acceptable. -/
def State.acceptableGrade (s : State) : Grade → Bool
  | .ungraded => true
  | .index g =>
    g == 8 ||
      (match s.openRun with
        | some r => decide (g < gradeCount (s.bank r.bank))
        | none => true)

/-- R115 check 4. -/
def State.patternFits (s : State) : ManualPattern → Bool
  | .piece i j g => decide (i < j) && decide (j < s.config.sn) && s.sawIn i && s.sawIn j && s.acceptableGrade g
  | .waste => true
  | .pass => true

/-- R115 check 3. -/
def State.ownsOrTakes (s : State) : Bool :=
  match s.trimmer.ownership with
  | .takePending => true
  | .manual => true
  | .auto => false
  | .releasePending _ => false

def answerManualPattern (body : List Byte) (s : State) : Answer :=
  match parsePattern body with
  | none => refuse .badFormat
  | some p =>
    if s.line.state = .configuring then refuse .badState
    else if !s.ownsOrTakes then refuse .notOwner
    else if s.patternFits p then accept (patternBytes p) fun x => x.setManualPattern p
    else refuse .outOfRange

def execManualPattern (port : Port) (s : State) : Host.Outcome State Fault Refusal :=
  .next (s.takeRequest port 0x1F#8 answerManualPattern)

/-! ### Overrides (R117 to R122) -/

/-- R117 check 6: whether a pair fits the line and the board. -/
def State.pairFits (s : State) (b : Board) (i j : Nat) : Bool :=
  decide (i < j) && decide (j < s.config.sn) && decide (sawPosition s.config j ≤ b.length.getD 0)

/-- R117 check 6. -/
def State.overrideFits (s : State) (b : Board) : OverrideForm → Bool
  | .place (.setGrade g) => decide (g ≤ 8)
  | .place (.setTrim i j) => s.pairFits b i j
  | .place (.setBoth i j g) => s.pairFits b i j && decide (g ≤ 8)
  | .place .waste => true
  | .place .pass => true
  | .cancel => true

/-- R67, R119: whether the regrade list takes an entry for a board once the board's own regrade is withdrawn. -/
def State.takesRegrade (s : State) (b : Board) : Bool :=
  decide ((s.withdrawRegrade b.tag).grading.regrades.length < Config.regradePlaces) && b.bank.isSome

/-- R118: the regrade status of an override as it is accepted. -/
def State.statusFor (s : State) (b : Board) : OverrideForm → RegradeStatus
  | .place (.setTrim _ _) => if s.takesRegrade b then .pending else .noRegrade
  | _ => .none

/-- R119: the regrade entry of an accepted SET_TRIM offered to the list, and the arbiter acting (R69). -/
def State.offerRegrade (s : State) (b : Board) : OverrideForm → State
  | .place (.setTrim i j) =>
    if s.takesRegrade b then
      (s.setGrading { s.grading with regrades := s.grading.regrades ++ [{ tag := b.tag, i := i, j := j }] }).arbitrate
    else s
  | _ => s

/-- R118, R120: the override field after an accepted request. -/
def newOverride (p : Port) (status : RegradeStatus) : OverrideForm → Option Override
  | .place k => some { kind := k, fromPort := p, status := status, result := none, unused := false }
  | .cancel => none

/-- R118 to R120: an accepted OVERRIDE. -/
def State.acceptOverride (p : Port) (b : Board) (f : OverrideForm) (s : State) : State :=
  ((s.withdrawRegrade b.tag).mapBoard b.tag fun x => { x with override := newOverride p (s.statusFor b f) f }).offerRegrade b f

/-- R122: a refused OVERRIDE reply, with the tag. -/
def refuseTagged (r : Result) (t : Tag) : Answer := { reply := resultCode r :: le2 t.toNat, effect := id }

/-- R182: the fields a TOO_LATE reply adds. -/
def tooLateFields (b : Board) : List Byte :=
  match b.decision with
  | some d => [byteOf (chosenCode d.what), byteOf (sourceCode d.source)]
  | none => [absentByte, absentByte]

/-- R182: the fields an OK reply adds. -/
def overrideFields (s : State) (b : Board) (f : OverrideForm) : List Byte :=
  [byteOf (boardStateCode b.state), overrideKindByte b.override, byteOf (regradeStatusCode (s.statusFor b f)),
    flagByte b.tracking]

/-- The tag of an OVERRIDE; a body too short to hold one gives no field, so filler (log entry 23). -/
def overrideTag (s : State) (body : List Byte) : Tag :=
  if body.length < 2 then Config.filler s.draws 0 else tagAt body 0

/-- R117 checks 4 to 6 and the acceptance, for a record found. -/
def answerOverrideFound (p : Port) (s : State) (b : Board) (f : OverrideForm) : Answer :=
  match b.state with
  | .scanning => refuseTagged .notReady b.tag
  | .committed => { reply := resultCode .tooLate :: le2 b.tag.toNat ++ tooLateFields b, effect := id }
  | .cut => { reply := resultCode .tooLate :: le2 b.tag.toNat ++ tooLateFields b, effect := id }
  | _ =>
    if s.overrideFits b f then accept (le2 b.tag.toNat ++ overrideFields s b f) (State.acceptOverride p b f)
    else refuseTagged .outOfRange b.tag

def answerOverride (p : Port) (body : List Byte) (s : State) : Answer :=
  match parseOverride body with
  | none => refuseTagged .badFormat (overrideTag s body)
  | some f =>
    if s.line.state = .configuring then refuseTagged .badState (tagAt body 0)
    else
      match s.findBoard (tagAt body 0) with
      | none => refuseTagged .notFound (tagAt body 0)
      | some b => answerOverrideFound p s b f

def execOverride (port : Port) (s : State) : Host.Outcome State Fault Refusal :=
  .next (s.takeRequest port 0x04#8 (answerOverride port))

/-! ### ATTENTION_CLEAR (R125) -/

def answerAttentionClear (body : List Byte) (_s : State) : Answer :=
  if body ≠ [] then refuse .badFormat else accept [] State.clearValueLoss

def execAttentionClear (port : Port) (s : State) : Host.Outcome State Fault Refusal :=
  .next (s.takeRequest port 0x20#8 answerAttentionClear)

end Sys2Proof.Machine
end

