-- ==== Sys2Proof/Machine/Outfeed.lean ====
section
/-! DEFINITION. The outfeed unit (Chapter 8): sampling at the saw line, the saw-line event, the marker event, pattern
application, and the requests about saws and bins. -/

namespace Sys2Proof.Machine

/-! ### Sampling (R132, R133) -/

/-- R132: the saws commanded down by the pattern that stood before a lug event. -/
def commandedSaws (before : Option Applied) : SawSet :=
  match before with
  | none => 0#13
  | some a => a.saws

/-- R132: the sampled set over saws 0 to SN − 1. -/
def sampledSet (sn : Nat) (feedback : SawSet) : SawSet := sawsWhere sn (hasSaw feedback)

/-- R132, R133: an entry after a sampling; a second consecutive mismatch of an IN saw faults it. -/
def Saw.sampled (differs : Bool) (w : Saw) : Saw :=
  match w.state with
  | .inService =>
    if differs then
      if 1 ≤ w.mismatches then { state := .faulted, mismatches := 0 } else { w with mismatches := w.mismatches + 1 }
    else { w with mismatches := 0 }
  | .out => { w with mismatches := 0 }
  | .faulted => { w with mismatches := 0 }

/-- R132: whether saw k differs from its command. -/
def sawDiffers (before : Option Applied) (feedback : SawSet) (k : Nat) : Bool :=
  hasSaw (commandedSaws before) k != hasSaw feedback k

/-- R132: the table after the sampling of saws 0 to SN − 1, k being the number of the first. -/
def sampleTable (sn : Nat) (before : Option Applied) (feedback : SawSet) : Nat → List Saw → List Saw
  | _, [] => []
  | k, w :: ws =>
    (if k < sn then w.sampled (sawDiffers before feedback k) else w) :: sampleTable sn before feedback (k + 1) ws

/-- The saws that are FAULTED in the second table and not in the first, k being the number of the first. -/
def newFaults : Nat → List Saw → List Saw → List Nat
  | k, w :: ws, v :: vs =>
    if v.state == .faulted && w.state != .faulted then k :: newFaults (k + 1) ws vs else newFaults (k + 1) ws vs
  | _, _, _ => []

/-- R132, R133: the sampling of a lug event, `onBoard` being the tag of the board at D. -/
def State.sampleSaws (s : State) (before : Option Applied) (onBoard : Option Tag) : State :=
  let table := sampleTable s.config.sn before s.pins.feedback 0 s.outfeed.saws
  let s1 := { s with outfeed := { s.outfeed with saws := table } }
  ((newFaults 0 s.outfeed.saws table).foldl (fun x k => x.notice (.sawFault k onBoard)) s1).refreshAttention

/-! ### The saw-line event (R134 to R136) -/

/-- The saw set of a board's final decision (R105). -/
def boardSaws (b : Board) : SawSet :=
  match b.decision with
  | some d => chosenSaws d.what
  | none => 0#13

/-- R134: the outcome of a board against the sampled set, over saws 0 to SN − 1. -/
def cutOutcome (sn : Nat) (feedback : SawSet) (b : Board) : CutOutcome :=
  if sampledSet sn feedback = sampledSet sn (boardSaws b) then .normal else .mismatch

/-- R134: the record after its sampling: the sampled pattern, and on a MISMATCH the replaced stamp. -/
def Board.cutWith (b : Board) (sn : Nat) (feedback : SawSet) (fallback : List Byte) : Board :=
  { b with
    sampled := some { saws := sampledSet sn feedback, outcome := cutOutcome sn feedback b }
    stamp := if cutOutcome sn feedback b = .mismatch then some fallback else b.stamp }

/-- R136: a bin put out with its strobe; a bin of none leaves the output as it was. -/
def State.outputBin (s : State) (bin : Option Nat) : State :=
  match bin with
  | none => s
  | some n => { s with outfeed := { s.outfeed with binCode := n } }.emit (.binStrobe n)

/-- R134, R135: the saw-line event of a COMMITTED board. -/
def State.sawLineEvent (s : State) (b : Board) : State :=
  let cut := b.cutWith s.config.sn s.pins.feedback (fallbackText (s.boardBank b))
  let s1 := (s.mapBoard b.tag fun _ => cut).tallyBoard cut (cutOutcome s.config.sn s.pins.feedback b)
  let s2 := s1.outputBin (binOutput cut)
  ({ s2 with patterns := s2.patterns.filter fun e => e.tag ≠ b.tag }).mapBoard b.tag fun x => { x with state := .cut }

/-- R132, R134: the saw line's part of a lug event. -/
def State.sawLine (s : State) (before : Option Applied) : State :=
  match s.findBoard (s.tagAtPosition s.config.d) with
  | none => s.sampleSaws before none
  | some b =>
    let s1 := s.sampleSaws before (some b.tag)
    if b.state = .committed then s1.sawLineEvent b else s1

/-! ### The marker event (R138, R139) -/

/-- R138: what the marker does with a stamp text: the record's UNMARKED flag after it, and the text sent. -/
def markBoard (ready : Bool) (b : Board) : Bool × Option (List Byte) :=
  match b.stamp with
  | none => (b.unmarked, none)
  | some [] => (b.unmarked, none)
  | some (c :: cs) => if ready then (b.unmarked, some (c :: cs)) else (true, none)

/-- R138, R139: the marker event of a CUT board. DISPATCH is the second member of the report selection. -/
def State.markerEvent (s : State) (b : Board) : State :=
  let mark := markBoard s.pins.markerReady b
  let marked := { b with unmarked := mark.1 }
  let s1 := s.mapBoard b.tag fun _ => marked
  let s2 :=
    match mark.2 with
    | some text => s1.emit (.marker text)
    | none => s1
  let s3 := if s2.selection.getLsbD 1 then s2.offer .line 0x41#8 (dispatchReport marked) else s2
  s3.removeBoard b.tag

/-- The marker's part of a lug event. -/
def State.marker (s : State) : State :=
  match s.findBoard (s.tagAtPosition (s.config.d + s.config.m)) with
  | none => s
  | some b => if b.state = .cut then s.markerEvent b else s

/-! ### Pattern application (R129) -/

/-- R129: the applied pattern for the record that stands at D − 1. -/
def State.patternFor (s : State) : Option Applied :=
  match s.findBoard (s.tagAtPosition (s.config.d - 1)) with
  | none => none
  | some b => (s.patterns.find? fun e => e.tag = b.tag).map fun e => { tag := e.tag, saws := e.saws }

def State.applyPattern (s : State) : State := { s with outfeed := { s.outfeed with applied := s.patternFor } }

/-- R131: the outfeed unit's part of a lug event, against the pattern that stood before it. -/
def State.outfeedPart (s : State) (before : Option Applied) : State := ((s.sawLine before).marker).applyPattern

/-! ### SAW_STATE and BIN_STATE (R128, R137) -/

/-- R128. -/
def State.setSaw (k : Nat) (state : SawState) (s : State) : State :=
  (s.mapSaw k fun _ => { state := state, mismatches := 0 }).refreshAttention

def answerSawState (body : List Byte) (s : State) : Answer :=
  match parseSawState body with
  | none => refuse .badFormat
  | some (k, state) =>
    if Config.sawCount ≤ k then refuse .outOfRange
    else accept [byteOf (sawStateCode (s.saw k).state), byteOf (sawStateCode state)] (State.setSaw k state)

def execSawState (port : Port) (s : State) : Host.Outcome State Fault Refusal :=
  .next (s.takeRequest port 0x15#8 answerSawState)

/-- R137: the bin-full set with a bin added or removed. -/
def setBin (full : BitVec 64) (k : Nat) (isFull : Bool) : BitVec 64 :=
  if isFull then full ||| BitVec.twoPow 64 k else full &&& ~~~(BitVec.twoPow 64 k)

def answerBinState (body : List Byte) (s : State) : Answer :=
  match parseBinState body with
  | none => refuse .badFormat
  | some (k, isFull) =>
    if k = 0 ∨ 63 < k then refuse .outOfRange
    else
      accept [flagByte (s.outfeed.binFull.getLsbD k), flagByte isFull] fun x =>
        { x with outfeed := { x.outfeed with binFull := setBin x.outfeed.binFull k isFull } }

def execBinState (port : Port) (s : State) : Host.Outcome State Fault Refusal :=
  .next (s.takeRequest port 0x16#8 answerBinState)

end Sys2Proof.Machine
end

