-- ==== Sys2Proof/Machine/LineControl.lean ====
section
/-! DEFINITION. Line control (Chapter 10) and the head requests (Chapter 2): configuration, start, resume, the resets,
the notice mask, the drain. -/

namespace Sys2Proof.Machine

def State.setLine (s : State) (l : LineControl) : State := { s with line := l }

/-! ### LINE_CONFIG (R157, R158) -/

/-- R26: the head table after LINE_CONFIG. -/
def configuredHeads (hn : Nat) : List Head :=
  (List.range Config.headCount).map fun k => if k < hn then { absentHead with state := .stale } else absentHead

/-- R158, R140: every mismatch count at 0. -/
def zeroMismatches (saws : List Saw) : List Saw := saws.map fun w => { w with mismatches := 0 }

/-- R158: an accepted LINE_CONFIG. -/
def State.configure (c : LineParams) (s : State) : State :=
  let s1 : State :=
    { s with
      line := { s.line with config := c }
      intake := { s.intake with heads := configuredHeads c.hn }
      outfeed := { s.outfeed with saws := zeroMismatches s.outfeed.saws } }
  s1.refreshAttention

def answerLineConfig (body : List Byte) (s : State) : Answer :=
  match parseConfig body with
  | none => refuse .badFormat
  | some c =>
    if s.line.state ≠ .configuring then refuse .badState
    else
      match badParameter c with
      | some n => { reply := [resultCode .outOfRange, byteOf n], effect := id }
      | none => accept [] (State.configure c)

def execLineConfig (port : Port) (s : State) : Host.Outcome State Fault Refusal :=
  .next (s.takeRequest port 0x06#8 answerLineConfig)

/-! ### LINE_START and LINE_RESUME (R159, R161) -/

/-- R159: an accepted LINE_START. -/
def State.startLine (s : State) : State :=
  let s1 := s.setLine { s.line with state := .running }
  if s.allRetired then s1.raiseFault .allHeadsLost else s1

def answerLineStart (body : List Byte) (s : State) : Answer :=
  if body ≠ [] then refuse .badFormat
  else if s.line.state ≠ .configuring ∨ s.config.hn < 1 ∨ s.config.sn < 2 then refuse .badState
  else accept [byteOf (lineStateCode (if s.allRetired then .stopped else .running))] State.startLine

def execLineStart (port : Port) (s : State) : Host.Outcome State Fault Refusal :=
  .next (s.takeRequest port 0x07#8 answerLineStart)

/-- R161: an accepted LINE_RESUME. -/
def State.resumeLine (s : State) : State :=
  s.setLine { s.line with state := .running, latch := { lugSkip := false, allHeadsLost := false } }

def answerLineResume (body : List Byte) (s : State) : Answer :=
  if body ≠ [] then refuse .badFormat
  else if s.line.state ≠ .stopped ∨ s.allRetired then refuse .badState
  else accept [] State.resumeLine

def execLineResume (port : Port) (s : State) : Host.Outcome State Fault Refusal :=
  .next (s.takeRequest port 0x08#8 answerLineResume)

/-! ### LINE_RESET (R162) -/

/-- R151, R38: what LINE_RESET counts before it discards. -/
def State.countDiscards (s : State) : State := (s.tracker.ring.foldl State.countReset s).discardLog

/-- R36: calibrations closed without settling; memberships become none. -/
def resetIntake (k : Intake) : Intake :=
  { heads := k.heads.map fun h => { h with membership := none }, calibrations := [] }

/-- R76. -/
def emptyGrading : Grading := { engines := List.replicate Config.engineCount .idle, queue := [], regrades := [] }

/-- R16, R36, R76, R106, R126, R140, R162: everything in flight emptied. -/
def State.emptyLine (s : State) : State :=
  { s with
    tracker := { s.tracker with homeCount := 0, synced := false, eye := none, ring := [] }
    intake := resetIntake s.intake
    grading := emptyGrading
    patterns := []
    outfeed := { s.outfeed with applied := none }
    trimmer := { s.trimmer with ownership := .auto, pattern := .pass, timer := none }
    line := { s.line with state := .configuring, latch := { lugSkip := false, allHeadsLost := false } } }

/-- R165: an outstanding drain ends as ABORTED. -/
def State.abortDrain (s : State) : State :=
  match s.line.drain with
  | none => s
  | some d => (s.setLine { s.line with drain := none }).reportDrainDone .aborted d

/-- R162: LINE_RESET, with its reports in their order. THE MODEL'S CHOICE (log entry 34): in CONFIGURING too it discards a log
in progress as debris (R38) and stops the silence timer (R113). -/
def State.lineReset (s : State) : State :=
  let s1 := s.countDiscards.emptyLine
  let s2 := if s.trimmer.ownership = .auto then s1 else s1.reportOwner .lineReset s1.nextHorizonTag
  (s2.closeRuns .lineReset fun _ => true).abortDrain

def answerLineReset (body : List Byte) (_s : State) : Answer :=
  if body ≠ [] then refuse .badFormat else accept [] State.lineReset

def execLineReset (port : Port) (s : State) : Host.Outcome State Fault Refusal :=
  .next (s.takeRequest port 0x09#8 answerLineReset)

/-! ### Power-on, the RESET pin and PART_RESET (R163) -/

/-- R163: the initial state. The input pins are driven from outside; `pending` and `draws` are the model's own. -/
def State.fullReset (s : State) : State := { State.reset with pins := s.pins, draws := s.draws, pending := s.pending }

def execPowerOn (s : State) : Host.Outcome State Fault Refusal := .next s.fullReset

def execResetPin (s : State) : Host.Outcome State Fault Refusal := .next s.fullReset

/-- R163: the frames not yet begun removed from a queue, `keep` of the newest kept (the reply of PART_RESET). -/
def PortState.cutQueue (q : PortState) (keep : Nat) : PortState :=
  { q with outbound := q.outbound.take 1 ++ ((q.outbound.drop 1).reverse.take keep) }

/-- R163: what the taking of a PART_RESET does, its reply standing last in the line port's queue. -/
def State.beginReset (s : State) : State :=
  { s with
    linePort := s.linePort.cutQueue 1
    consolePort := s.consolePort.cutQueue 0
    line := { s.line with resetting := true } }

def answerPartReset (body : List Byte) (_s : State) : Answer :=
  if body ≠ [] then refuse .badFormat else accept [] State.beginReset

def execPartReset (port : Port) (s : State) : Host.Outcome State Fault Refusal :=
  .next (s.takeRequest port 0x05#8 answerPartReset)

/-- PART_RESET_COMPLETE: the reset itself, after the last byte of the reply and of a frame being sent on either port
(R163, R171). -/
def execPartResetComplete (s : State) : Host.Outcome State Fault Refusal :=
  if s.line.resetting ∧ s.linePort.outbound = [] ∧ s.consolePort.outbound = [] then .next s.fullReset else .next s

/-! ### NOTICE_MASK and DRAIN (R164, R165) -/

def answerNoticeMask (body : List Byte) (s : State) : Answer :=
  if body.length ≠ 2 ∨ 512 ≤ halfAt body 0 then refuse .badFormat
  else
    accept (le2 s.line.noticeMask.toNat ++ le2 (halfAt body 0)) fun x =>
      x.setLine { x.line with noticeMask := BitVec.ofNat 9 (halfAt body 0) }

def execNoticeMask (port : Port) (s : State) : Host.Outcome State Fault Refusal :=
  .next (s.takeRequest port 0x1A#8 answerNoticeMask)

/-- R165: an accepted DRAIN, tested at once. -/
def State.startDrain (s : State) : State := (s.setLine { s.line with drain := some s.tracker.serial }).testDrain

def answerDrain (body : List Byte) (s : State) : Answer :=
  if body ≠ [] then refuse .badFormat
  else if s.line.state = .configuring then refuse .badState
  else if s.line.drain.isSome then refuse .busy
  else accept (le2 s.tracker.serial.toNat) State.startDrain

def execDrain (port : Port) (s : State) : Host.Outcome State Fault Refusal :=
  .next (s.takeRequest port 0x1C#8 answerDrain)

/-! ### HEAD_RETIRE, HEAD_RESTORE, HEAD_CLEAR (R33 to R35) -/

/-- Section 2.9: the head a request names, when it is 1 to HN and not ABSENT. -/
def State.namesHead (s : State) (h : Nat) : Bool :=
  decide (1 ≤ h) && decide (h ≤ s.config.hn) && (s.head h).state != .absent

def answerHeadRetire (body : List Byte) (s : State) : Answer :=
  if body.length ≠ 1 then refuse .badFormat
  else if s.namesHead (byteAt body 0) then accept [] fun x => x.retireByHost (byteAt body 0)
  else refuse .outOfRange

def execHeadRetire (port : Port) (s : State) : Host.Outcome State Fault Refusal :=
  .next (s.takeRequest port 0x17#8 answerHeadRetire)

def answerHeadRestore (body : List Byte) (s : State) : Answer :=
  if body.length ≠ 1 then refuse .badFormat
  else if !s.namesHead (byteAt body 0) then refuse .outOfRange
  else if (s.head (byteAt body 0)).state = .retired then accept [] fun x => x.restoreHead (byteAt body 0)
  else refuse .badState

def execHeadRestore (port : Port) (s : State) : Host.Outcome State Fault Refusal :=
  .next (s.takeRequest port 0x18#8 answerHeadRestore)

/-- R35: the notice latch of a head cleared. -/
def State.clearLatch (h : Nat) (s : State) : State := s.mapHead h fun e => { e with latch := false }

def answerHeadClear (body : List Byte) (s : State) : Answer :=
  if body.length ≠ 1 then refuse .badFormat
  else if s.namesHead (byteAt body 0) then accept [] (State.clearLatch (byteAt body 0))
  else refuse .outOfRange

def execHeadClear (port : Port) (s : State) : Host.Outcome State Fault Refusal :=
  .next (s.takeRequest port 0x19#8 answerHeadClear)

end Sys2Proof.Machine
end

