-- ==== Sys2Proof/Machine/Ports.lean ====
section
/-! DEFINITION. The message links (Chapter 11): the receivers, the inbound buffers, the sending of frames, and the
requests HELLO, STATUS, BOARD_QUERY and REPORT_SELECT. -/

namespace Sys2Proof.Machine

/-! ### The receiver (R166) -/

/-- The receiver with no frame in progress. -/
def hunting : Receiver := { state := .hunting, held := [] }

/-- R166, HEADER: the bytes held with the new one. -/
def headerStep (held : List Byte) : Receiver :=
  if held.length = 2 ∧ Config.maxBody < halfAt held 0 then hunting
  else if held.length = 4 then { state := if halfAt held 0 = 0 then .check else .body, held := held }
  else { state := .header, held := held }

/-- R166, BODY. -/
def bodyStep (held : List Byte) : Receiver :=
  { state := if held.length = 4 + halfAt held 0 then .check else .body, held := held }

/-- The frame whose length, kind, tag and body bytes are held (R179). -/
def heldFrame (held : List Byte) : Frame :=
  { kind := held.getD 2 0#8, tag := held.getD 3 0#8, body := (held.drop 4).take (halfAt held 0) }

/-- R166, CHECK: the comparison at the second byte of the check word. -/
def checkStep (held : List Byte) : Receiver × Option Frame :=
  let n := 4 + halfAt held 0
  if held.length = n + 2 then
    (hunting, if held.drop n = checkBytes (held.take n) then some (heldFrame held) else none)
  else ({ state := .check, held := held }, none)

/-- R166: one received byte; the frame it completes, if any. -/
def Receiver.step (r : Receiver) (b : Byte) : Receiver × Option Frame :=
  match r.state with
  | .hunting => (if b = 0xA5#8 then { state := .header, held := [] } else r, none)
  | .header => (headerStep (r.held ++ [b]), none)
  | .body => (bodyStep (r.held ++ [b]), none)
  | .check => checkStep (r.held ++ [b])

/-! ### The inbound buffer (R167) -/

/-- R113: the silence timer restarted by a valid console frame. -/
def State.restartTimer (s : State) (p : Port) : State :=
  match p with
  | .line => s
  | .console => s.setTimer (some s.config.ct)

/-- R167 steps 3 and 4. -/
def PortState.place (q : PortState) (f : Frame) : PortState :=
  match q.inbound with
  | none => { q with inbound := some f }
  | some _ => { q with overrun := satAdd Config.max16 q.overrun 1 }

/-- R167: a frame that passed its check; between the taking of a PART_RESET and the reset it is discarded (R163). -/
def State.acceptFrame (s : State) (p : Port) (f : Frame) : State :=
  if s.line.resetting then s
  else
    let s1 := s.restartTimer p
    if 0x80 ≤ f.kind.toNat then s1 else s1.setPort p ((s1.port p).place f)

def State.setRx (s : State) (p : Port) (r : Receiver) : State := s.setPort p { s.port p with rx := r }

/-- FRAME_RECEIVED: a whole frame has passed its check, which leaves the receiver HUNTING (R166, R167, log entry 9). No
frame has a body of more than 240 bytes. -/
def State.frameReceived (s : State) (p : Port) (f : Frame) : State :=
  if Config.maxBody < f.body.length then s else (s.setRx p hunting).acceptFrame p f

def execFrameReceived (port : Port) (kind tag : Byte) (body : List Byte) (s : State) :
    Host.Outcome State Fault Refusal :=
  .next (s.frameReceived port { kind := kind, tag := tag, body := body })

/-- PORT_BYTE_RECEIVED: one byte with a valid stop bit (R166). -/
def State.byteReceived (s : State) (p : Port) (b : Byte) : State :=
  match (s.port p).rx.step b with
  | (r, none) => s.setRx p r
  | (r, some f) => (s.setRx p r).acceptFrame p f

def execPortByteReceived (port : Port) (byte : Byte) (s : State) : Host.Outcome State Fault Refusal :=
  .next (s.byteReceived port byte)

/-- R166: a gap of more than 2 ms discards the frame in progress. The byte that ends the gap comes as a byte of its own. -/
def execInterByteGapTimeout (port : Port) (s : State) : Host.Outcome State Fault Refusal :=
  .next (s.setRx port hunting)

/-- R166: a byte with no valid stop bit discards the frame in progress and begins none. -/
def execNoValidStopBit (port : Port) (s : State) : Host.Outcome State Fault Refusal := .next (s.setRx port hunting)

/-- FRAME_SENT: the oldest frame's last byte has been sent, and it leaves the queue (R171, log entry 8). -/
def execFrameSent (port : Port) (s : State) : Host.Outcome State Fault Refusal :=
  .next (s.setPort port { s.port port with outbound := (s.port port).outbound.drop 1 })

/-! ### HELLO (R174) -/

/-- A port's three counts (R174, R175). -/
def portCounts (q : PortState) : List Byte := le4 q.lost ++ le2 q.priorityLoss ++ le2 q.overrun

/-- R175: what every page of STATUS opens with; HELLO carries the same three. -/
def statusOpening (s : State) : List Byte :=
  le2 s.tracker.serial.toNat ++ [byteOf (lineStateCode s.line.state), byteOf (latchMask s.line.latch)]

def answerHello (p : Port) (body : List Byte) (s : State) : Answer :=
  if body ≠ [] then refuse .badFormat
  else
    accept
      (le2 Config.partNumber ++ [byteOf Config.interfaceLevel, byteOf (portCode p)] ++ statusOpening s ++
        [flagByte s.lineStop, byteOf Config.maxBody, byteOf (places p), byteOf (reservedPlaces p)] ++
        portCounts (s.port p))
      id

def execHello (port : Port) (s : State) : Host.Outcome State Fault Refusal :=
  .next (s.takeRequest port 0x01#8 (answerHello port))

/-! ### STATUS (R175) -/

/-- R186: the eye sample's code. -/
def eyeByte : Option EyeSample → Byte
  | none => absentByte
  | some e => flagByte e.loaded

/-- R175: the LINE page, each port's counts without a count byte (THE MODEL'S CHOICE, log entry 36). -/
def linePage (s : State) : List Byte :=
  configBytes s.config ++ [flagByte s.lineStop] ++ le2 s.line.noticeMask.toNat ++ [byteOf s.selection.toNat] ++
    optTag (Config.filler s.draws 0) s.line.drain ++ le2 s.tracker.homeCount ++
    [flagByte s.tracker.synced, byteOf s.tracker.ring.length, eyeByte s.tracker.eye] ++
    portCounts s.linePort ++ portCounts s.consolePort

def headBytes (s : State) (h : Nat) : List Byte :=
  [byteOf (headStateCode (s.head h).state)] ++ le2 (s.head h).counter ++
    [byteOf (s.head h).misses, flagByte (s.head h).latch] ++ optTag (Config.filler s.draws h) (s.head h).membership

/-- R175: the twelve heads in order. THE MODEL'S CHOICE (log entry 36, DESIGN CHOICE): R189 puts a count byte before a list and
does not say whether a table of fixed size is one; the model writes none. -/
def headsPage (s : State) : List Byte := (List.range Config.headCount).flatMap fun k => headBytes s (k + 1)

/-- R90: an engine's state, the tag it holds when not IDLE, and its REDUCED or withdrawn flag. -/
def engineBytes (filler : BitVec 16) : Engine → List Byte
  | .idle => [0x00#8] ++ optTag filler none ++ [absentByte]
  | .evaluating t _ reduced => [0x01#8] ++ optTag filler (some t) ++ [flagByte reduced]
  | .regrading t _ _ withdrawn => [0x02#8] ++ optTag filler (some t) ++ [flagByte withdrawn]

/-- R90: the three engines in order, with no count byte (THE MODEL'S CHOICE, log entry 36). -/
def enginesBytes (s : State) : List Byte :=
  (List.range Config.engineCount).flatMap fun k =>
    engineBytes (Config.filler s.draws k) (s.grading.engines.getD k .idle)

/-- The release cause, absent outside RELEASE_PENDING (R108). -/
def releaseCauseByte : Ownership → Byte
  | .releasePending c => byteOf (releaseCauseCode c)
  | _ => absentByte

/-- The scaler's state and the samples it holds in COLLECTING (R38, R175). -/
def scalerHeld (g : LogScaler) : List Byte :=
  match g.current with
  | none => [0x00#8, absentByte]
  | some l => [0x01#8, byteOf l.samples.length]

def workPage (s : State) : List Byte :=
  byteOf s.grading.queue.length :: s.grading.queue.flatMap (fun t => le2 t.toNat) ++
    [byteOf s.grading.regrades.length] ++ enginesBytes s ++
    [byteOf s.patterns.length, byteOf (ownershipCode s.trimmer.ownership), releaseCauseByte s.trimmer.ownership] ++
    patternBytes s.trimmer.pattern ++ [byteOf (attentionMask s.trimmer.attention)] ++ le4 s.trimmer.valueLoss ++
    le2 s.config.vm ++ scalerHeld s.logs

/-- The applied pattern's tag and saw set; with none the saw set's bytes hold no field (log entry 13). -/
def appliedBytes (s : State) : List Byte :=
  match s.outfeed.applied with
  | none => optTag (Config.filler s.draws 0) none ++ le2 (Config.filler s.draws 1).toNat
  | some a => optTag (Config.filler s.draws 0) (some a.tag) ++ sawBytes a.saws

/-- R175: the OUTFEED page, the thirteen saws in order with no count byte (THE MODEL'S CHOICE, log entry 36). -/
def outfeedPage (s : State) (markerReady : Bool) : List Byte :=
  (List.range Config.sawCount).flatMap (fun k => [byteOf (sawStateCode (s.saw k).state), byteOf (s.saw k).mismatches]) ++
    appliedBytes s ++ [byteOf s.outfeed.binCode] ++ le8 s.outfeed.binFull.toNat ++ [flagByte markerReady]

def runEntry (filler : BitVec 16) (r : Run) : List Byte :=
  le2 r.id ++ [byteOf (bankCode r.bank), byteOf (runStateCode r.state)] ++ le2 r.startTag.toNat ++ endTagBytes filler r ++
    le4 (r.counter scannedCounter).value

/-- The run records in table order, k being the number of the first. -/
def runEntries (draws : Nat) : Nat → List Run → List Byte
  | _, [] => []
  | k, r :: rs => runEntry (Config.filler draws k) r ++ runEntries draws (k + 1) rs

/-- The id of the log station's run (R148). -/
def State.logRunId (s : State) : Option Nat :=
  match s.tally.logRun with
  | none => none
  | some key => (s.tally.runs.find? fun r => r.key == key).map fun r => r.id

def figureBytes (u : Unattributed) : List Byte :=
  le4 u.scanned ++ le4 u.cut ++ le4 u.discarded ++ le4 u.logs ++ le4 u.litres ++ le4 u.debris

def bankEntry (s : State) (n : BankName) : List Byte :=
  [byteOf (bankStateCode (s.bank n).state), flagByte (s.bankInUse n)]

def windowBytes : Option LoadWindow → List Byte
  | none => List.replicate 11 absentByte
  | some w =>
    [byteOf (bankCode w.bank), byteOf (tableCode w.table), byteOf w.firstRow, byteOf w.lastRow, byteOf w.firstCol,
      byteOf w.lastCol, byteOf (orderCode w.order), byteOf (overflowCode w.overflow), byteOf w.row, byteOf w.col,
      flagByte w.exhausted]

/-- R175: the RUNS page: the run records are a list, with its count byte; the figures and the two banks are not (THE MODEL'S
CHOICE, log entry 36). -/
def runsPage (s : State) : List Byte :=
  byteOf s.tally.runs.length :: runEntries s.draws 0 s.tally.runs ++ runBytes s.logRunId ++
    figureBytes s.tally.unattributed ++ bankEntry s .a ++ bankEntry s .b ++ windowBytes s.rules.window

def pageBytes (s : State) (markerReady : Bool) : StatusPage → List Byte
  | .line => linePage s
  | .heads => headsPage s
  | .work => workPage s
  | .outfeed => outfeedPage s markerReady
  | .runs => runsPage s

def answerStatus (markerReady : Bool) (body : List Byte) (s : State) : Answer :=
  match parsePage body with
  | none => refuse .badFormat
  | some page =>
    accept (statusOpening s ++ pageBytes s markerReady page) fun x =>
      { x with pins := { x.pins with markerReady := markerReady } }

/-- STATUS; the marker-ready input stands at `markerReady` when the request is taken (R138, R175). -/
def execStatus (port : Port) (markerReady : Bool) (s : State) : Host.Outcome State Fault Refusal :=
  .next (s.takeRequest port 0x02#8 (answerStatus markerReady))

/-! ### BOARD_QUERY and REPORT_SELECT (R176, R173) -/

def answerBoardQuery (body : List Byte) (s : State) : Answer :=
  match parseBoardQuery body with
  | none => refuse .badFormat
  | some (t, part) =>
    match s.findBoard t with
    | none => refuseTagged .notFound t
    | some b =>
      match part with
      | none => { reply := recordReply s b, effect := id }
      | some first => { reply := defectsReply b first, effect := id }

def execBoardQuery (port : Port) (s : State) : Host.Outcome State Fault Refusal :=
  .next (s.takeRequest port 0x03#8 answerBoardQuery)

def answerReportSelect (body : List Byte) (s : State) : Answer :=
  if body.length ≠ 1 ∨ 8 ≤ byteAt body 0 then refuse .badFormat
  else
    accept [byteOf s.selection.toNat, byteOf (byteAt body 0)] fun x =>
      { x with selection := BitVec.ofNat 3 (byteAt body 0) }

def execReportSelect (port : Port) (s : State) : Host.Outcome State Fault Refusal :=
  .next (s.takeRequest port 0x1B#8 answerReportSelect)

end Sys2Proof.Machine
end

