-- ==== Sys2Proof/Machine/Lug.lean ====
section
/-! DEFINITION. The lug tracker (Chapter 1): the lug event, whose parts the blocks handle in an order the spec leaves
open, and the home pulse. -/

namespace Sys2Proof.Machine

/-! ### The scan event (R10, R18, R144) -/

/-- R10: the record created at the scan event, with every field as in the creation column of R9. -/
def newBoard (t : Tag) (run : Option Run) (window : List HeadView) : Board :=
  { tag := t, state := .scanning, run := run.map (fun r => r.id), bank := run.map (fun r => r.bank), number := none,
    length := none, overlength := false, defects := [], marks := [], tracking := false, advisory := none,
    override := none, decision := none, stamp := none, sampled := none, unmarked := false, window := some window }

/-- R10, R15: the new record joins the ring at position 0. -/
def State.createBoard (s : State) : State :=
  s.setRing (s.tracker.ring ++ [newBoard s.tracker.serial s.openRun (s.openWindow s.tracker.serial)])

/-- The scan event: the switch of runs, the record, the LUG_MARK, the window; an empty expected set closes at once. -/
def State.scanEvent (s : State) : State :=
  let s1 := s.runSwitch.createBoard.endAtSerial
  (s1.sendLink .lugMark s1.tracker.serial []).works [.closeIfComplete s1.tracker.serial]

/-! ### The lug event (R1) -/

/-- R1, R6: the serial advanced, the home count incremented, the eye sampled. -/
def State.advance (s : State) (eyeLoaded : Bool) : State :=
  { s with
    tracker :=
      { s.tracker with
        serial := s.tracker.serial + 1#16
        homeCount := satAdd Config.max16 s.tracker.homeCount 1
        eye := some { loaded := eyeLoaded, serial := s.tracker.serial + 1#16 + 1#16 } } }

/-- The blocks' parts of one lug event. -/
inductive LugPart where
  | scan | counters | calibrate | window | horizon | outfeed | closing
deriving DecidableEq, Repr

def lugParts : List LugPart := [.scan, .counters, .calibrate, .window, .horizon, .outfeed, .closing]

/-- One part, `before` being the state that the lug event found: its head table for the counters (R27) and its applied
pattern for the sampling (R132). -/
def State.lugPart (before s : State) : LugPart → State
  | .scan => s.scanEvent
  | .counters => s.tickCounters before.intake.heads
  | .calibrate => s.chooseCalibration
  | .window => s.windowClose
  | .horizon => s.horizonEvent
  | .outfeed => s.outfeedPart before.outfeed.applied
  | .closing => s.closingTest

/-- A lug event with its parts in a given order. -/
def State.lugEventWith (s : State) (eyeLoaded : Bool) (order : List LugPart) : State :=
  order.foldl (State.lugPart s) (s.advance eyeLoaded)

/-- R1: a lug event, its parts in the order the free value picks (log entry 4). -/
def State.lugEvent (s : State) (eyeLoaded : Bool) : State :=
  { s with draws := s.draws + 1 }.lugEventWith eyeLoaded (permuteBy (Config.lugOrder s.draws) lugParts)

/-- The levels of the input pins as a lug event reads them. -/
def State.setPins (s : State) (p : Pins) : State := { s with pins := p }

/-- LUG_EVENT: a LUG pulse with the levels of the eye, the saw feedback and the marker-ready input; ignored in
CONFIGURING (R1) and while a PART_RESET completes (R163). -/
def execLugEvent (eyeLoaded : Bool) (feedback : SawSet) (markerReady : Bool) (s : State) :
    Host.Outcome State Fault Refusal :=
  let s1 := s.setPins { eyeLoaded := eyeLoaded, feedback := feedback, markerReady := markerReady }
  if s1.takesLugs then .next (s1.lugEvent eyeLoaded) else .next s1

/-! ### The home pulse (R3, R4) -/

def State.setTracker (s : State) (t : Tracker) : State := { s with tracker := t }

/-- R4: the TRACKING mark given to every record in the ring. -/
def State.markTracking (s : State) : State := s.setRing (s.tracker.ring.map fun b => { b with tracking := true })

/-- R3, R4: a HOME pulse in RUNNING or STOPPED. -/
def State.homePulse (s : State) : State :=
  let s1 :=
    if s.tracker.synced ∧ s.config.k ≠ 0 ∧ s.tracker.homeCount ≠ s.config.k then s.markTracking.raiseFault .lugSkip
    else s
  s1.setTracker { s1.tracker with homeCount := 0, synced := true }

def execHomePulse (s : State) : Host.Outcome State Fault Refusal :=
  if s.takesLugs then .next s.homePulse else .next s

end Sys2Proof.Machine
end

