-- ==== Sys2Proof/Machine/Dispatch.lean ====
section
/-! DEFINITION. The meaning of every command: one arm per constructor, each one direct call. -/

namespace Sys2Proof.Machine

def exec (i : Instr) (s : State) : Host.Outcome State Fault Refusal :=
  match i with
  | .powerOn => Sys2Proof.Machine.execPowerOn s
  | .resetPin => Sys2Proof.Machine.execResetPin s
  | .lugEvent eyeLoaded feedback markerReady => Sys2Proof.Machine.execLugEvent eyeLoaded feedback markerReady s
  | .homePulse => Sys2Proof.Machine.execHomePulse s
  | .zoneLinkFrameDiscard bytes => Sys2Proof.Machine.execZoneLinkFrameDiscard bytes s
  | .zoneReport sender serial frameOk body => Sys2Proof.Machine.execZoneReport sender serial frameOk body s
  | .calResult sender serial frameOk body => Sys2Proof.Machine.execCalResult sender serial frameOk body s
  | .logBegin serial frameOk body => Sys2Proof.Machine.execLogBegin serial frameOk body s
  | .logSamples serial frameOk body => Sys2Proof.Machine.execLogSamples serial frameOk body s
  | .logEnd serial frameOk body => Sys2Proof.Machine.execLogEnd serial frameOk body s
  | .evaluationComplete engine => Sys2Proof.Machine.execEvaluationComplete engine s
  | .regradeComplete engine => Sys2Proof.Machine.execRegradeComplete engine s
  | .silenceTimerExpiry => Sys2Proof.Machine.execSilenceTimerExpiry s
  | .headCalDue head => Sys2Proof.Machine.execHeadCalDue head s
  | .headStale head => Sys2Proof.Machine.execHeadStale head s
  | .frameReceived port kind tag body => Sys2Proof.Machine.execFrameReceived port kind tag body s
  | .interByteGapTimeout port => Sys2Proof.Machine.execInterByteGapTimeout port s
  | .frameSent port => Sys2Proof.Machine.execFrameSent port s
  | .partResetComplete => Sys2Proof.Machine.execPartResetComplete s
  | .unknownKind port => Sys2Proof.Machine.execUnknownKind port s
  | .hello port => Sys2Proof.Machine.execHello port s
  | .status port markerReady => Sys2Proof.Machine.execStatus port markerReady s
  | .boardQuery port => Sys2Proof.Machine.execBoardQuery port s
  | .override port => Sys2Proof.Machine.execOverride port s
  | .partReset port => Sys2Proof.Machine.execPartReset port s
  | .lineConfig port => Sys2Proof.Machine.execLineConfig port s
  | .lineStart port => Sys2Proof.Machine.execLineStart port s
  | .lineResume port => Sys2Proof.Machine.execLineResume port s
  | .lineReset port => Sys2Proof.Machine.execLineReset port s
  | .bankOpen port => Sys2Proof.Machine.execBankOpen port s
  | .tableWindow port => Sys2Proof.Machine.execTableWindow port s
  | .tableData port => Sys2Proof.Machine.execTableData port s
  | .bankClose port => Sys2Proof.Machine.execBankClose port s
  | .tableRead port => Sys2Proof.Machine.execTableRead port s
  | .runStart port => Sys2Proof.Machine.execRunStart port s
  | .runEnd port => Sys2Proof.Machine.execRunEnd port s
  | .runFree port => Sys2Proof.Machine.execRunFree port s
  | .tallyRead port => Sys2Proof.Machine.execTallyRead port s
  | .logQuery port => Sys2Proof.Machine.execLogQuery port s
  | .reclaimTrimmer port => Sys2Proof.Machine.execReclaimTrimmer port s
  | .sawState port => Sys2Proof.Machine.execSawState port s
  | .binState port => Sys2Proof.Machine.execBinState port s
  | .headRetire port => Sys2Proof.Machine.execHeadRetire port s
  | .headRestore port => Sys2Proof.Machine.execHeadRestore port s
  | .headClear port => Sys2Proof.Machine.execHeadClear port s
  | .noticeMask port => Sys2Proof.Machine.execNoticeMask port s
  | .reportSelect port => Sys2Proof.Machine.execReportSelect port s
  | .drain port => Sys2Proof.Machine.execDrain port s
  | .takeTrimmer port => Sys2Proof.Machine.execTakeTrimmer port s
  | .releaseTrimmer port => Sys2Proof.Machine.execReleaseTrimmer port s
  | .manualPattern port => Sys2Proof.Machine.execManualPattern port s
  | .attentionClear port => Sys2Proof.Machine.execAttentionClear port s
  | .portByteReceived port byte => Sys2Proof.Machine.execPortByteReceived port byte s
  | .noValidStopBit port => Sys2Proof.Machine.execNoValidStopBit port s

end Sys2Proof.Machine
end

