-- ==== Sys2Proof/Safety.lean ====
section
/-! DEFINITION. The terms in which statements speak of the machine: which blocks of the state an effect leaves alone,
when a request can be taken and what its reply does, and the invariants that every command keeps. -/

namespace Sys2Proof.Machine

/-! ### Frames -/

/-- The blocks of the state. -/
inductive Block where
  | tracker | intake | logs | rules | grading | patterns | trimmer | outfeed | tally | line | linePort | consolePort
  | selection | pins | outputs | draws | pending
deriving DecidableEq, Repr

/-- Two states hold the same in a block. -/
def State.agrees (s t : State) : Block → Prop
  | .tracker => t.tracker = s.tracker
  | .intake => t.intake = s.intake
  | .logs => t.logs = s.logs
  | .rules => t.rules = s.rules
  | .grading => t.grading = s.grading
  | .patterns => t.patterns = s.patterns
  | .trimmer => t.trimmer = s.trimmer
  | .outfeed => t.outfeed = s.outfeed
  | .tally => t.tally = s.tally
  | .line => t.line = s.line
  | .linePort => t.linePort = s.linePort
  | .consolePort => t.consolePort = s.consolePort
  | .selection => t.selection = s.selection
  | .pins => t.pins = s.pins
  | .outputs => t.outputs = s.outputs
  | .draws => t.draws = s.draws
  | .pending => t.pending = s.pending

/-- Every block but the listed ones is the same in both states. -/
def State.sameExcept (changed : List Block) (s t : State) : Prop := ∀ b, b ∉ changed → s.agrees t b

/-! ### Requests -/

/-- The port and the kind of the request a command takes (R170, R179); none for the other commands. -/
def requestOf : Instr → Option (Port × Byte)
  | .hello p => some (p, 0x01#8)
  | .status p _ => some (p, 0x02#8)
  | .boardQuery p => some (p, 0x03#8)
  | .override p => some (p, 0x04#8)
  | .partReset p => some (p, 0x05#8)
  | .lineConfig p => some (p, 0x06#8)
  | .lineStart p => some (p, 0x07#8)
  | .lineResume p => some (p, 0x08#8)
  | .lineReset p => some (p, 0x09#8)
  | .bankOpen p => some (p, 0x0A#8)
  | .tableWindow p => some (p, 0x0B#8)
  | .tableData p => some (p, 0x0C#8)
  | .bankClose p => some (p, 0x0D#8)
  | .tableRead p => some (p, 0x0E#8)
  | .runStart p => some (p, 0x0F#8)
  | .runEnd p => some (p, 0x10#8)
  | .runFree p => some (p, 0x11#8)
  | .tallyRead p => some (p, 0x12#8)
  | .logQuery p => some (p, 0x13#8)
  | .reclaimTrimmer p => some (p, 0x14#8)
  | .sawState p => some (p, 0x15#8)
  | .binState p => some (p, 0x16#8)
  | .headRetire p => some (p, 0x17#8)
  | .headRestore p => some (p, 0x18#8)
  | .headClear p => some (p, 0x19#8)
  | .noticeMask p => some (p, 0x1A#8)
  | .reportSelect p => some (p, 0x1B#8)
  | .drain p => some (p, 0x1C#8)
  | .takeTrimmer p => some (p, 0x1D#8)
  | .releaseTrimmer p => some (p, 0x1E#8)
  | .manualPattern p => some (p, 0x1F#8)
  | .attentionClear p => some (p, 0x20#8)
  | .powerOn => none
  | .resetPin => none
  | .lugEvent _ _ _ => none
  | .homePulse => none
  | .zoneLinkFrameDiscard _ => none
  | .zoneReport _ _ _ _ => none
  | .calResult _ _ _ _ => none
  | .logBegin _ _ _ => none
  | .logSamples _ _ _ => none
  | .logEnd _ _ _ => none
  | .evaluationComplete _ => none
  | .regradeComplete _ => none
  | .silenceTimerExpiry => none
  | .headCalDue _ => none
  | .headStale _ => none
  | .frameReceived _ _ _ _ => none
  | .interByteGapTimeout _ => none
  | .frameSent _ => none
  | .partResetComplete => none
  | .unknownKind _ => none
  | .portByteReceived _ _ => none
  | .noValidStopBit _ => none

/-- The frame f waits in port p's buffer, and the port's queue has a place for its reply (R168, R171). -/
def State.asks (s : State) (p : Port) (f : Frame) : Prop :=
  (s.port p).inbound = some f ∧ (s.port p).outbound.length < places p

/-- The request f of port p taken and answered with a body, and nothing else changed: the buffer empty, the reply last
in the port's queue, one choice counted. -/
def State.replied (s : State) (p : Port) (f : Frame) (body : List Byte) : State :=
  { s.setPort p
      { s.port p with
        inbound := none
        outbound := (s.port p).outbound ++ [{ kind := f.kind + 0x80#8, tag := f.tag, body := body }] } with
    draws := s.draws + 1 }

/-- R179: the result codes. -/
def resultField : Result → Byte
  | .ok => 0x00#8 | .badFormat => 0x01#8 | .badState => 0x02#8 | .outOfRange => 0x03#8 | .notFound => 0x04#8
  | .notReady => 0x05#8 | .tooLate => 0x06#8 | .notOwner => 0x07#8 | .bankInUse => 0x08#8 | .invalid => 0x09#8
  | .duplicate => 0x0A#8 | .runTableFull => 0x0B#8 | .busy => 0x0C#8 | .unknownKind => 0x0D#8

/-- A request answered with a result and the fields after it, and nothing else changed. -/
def State.answered (s : State) (p : Port) (f : Frame) (r : Result) (fields : List Byte) : State :=
  s.replied p f (resultField r :: fields)

/-- The reply body that holds a result code alone. -/
def codeAlone (r : Result) : List Byte := [resultField r]

/-! ### Records on the ports, byte by byte (R178, R181, R183, R184, R186) -/

/-- R186: the codes of the named fields. -/
def gradeField : Grade → Byte
  | .index n => byteOf n
  | .ungraded => 0x09#8

def causeField : Cause → Byte
  | .tracking => 0x01#8 | .poison => 0x02#8 | .stopped => 0x03#8 | .noRun => 0x04#8
  | .queueFull => 0x05#8 | .late => 0x06#8 | .noFit => 0x07#8 | .sawOut => 0x08#8

def sourceField : Source → Byte
  | .auto => 0x00#8 | .console => 0x01#8 | .host => 0x02#8 | .manual => 0x03#8

def boardStateField : BoardState → Byte
  | .scanning => 0x00#8 | .queued => 0x01#8 | .evaluating => 0x02#8 | .decided => 0x03#8 | .committed => 0x04#8 | .cut => 0x05#8

def bankField : BankName → Byte
  | .a => 0x00#8 | .b => 0x01#8

def bankStateField : BankState → Byte
  | .empty => 0x00#8 | .loading => 0x01#8 | .loaded => 0x02#8

def tableField : Table → Byte
  | .limits => 0x00#8 | .price => 0x01#8 | .bins => 0x02#8 | .altBins => 0x03#8 | .names => 0x04#8
  | .labels => 0x05#8 | .stamp => 0x06#8 | .fallbackStamp => 0x07#8 | .params => 0x08#8

def orderField : WindowOrder → Byte
  | .rows => 0x00#8 | .columns => 0x01#8

def overflowField : WindowOverflow → Byte
  | .ignore => 0x00#8 | .wrap => 0x01#8

def runStateField : RunState → Byte
  | .pending => 0x00#8 | .isOpen => 0x01#8 | .closing => 0x02#8 | .closed => 0x03#8

def overrideKindField : OverrideKind → Byte
  | .setGrade _ => 0x00#8 | .setTrim _ _ => 0x01#8 | .setBoth _ _ _ => 0x02#8 | .waste => 0x03#8 | .pass => 0x04#8

/-- R178: a set of saws, saw k at bit k, and the set {i, j}. -/
def pairField (i j : Nat) : List Byte := le2 (BitVec.twoPow 13 i ||| BitVec.twoPow 13 j).toNat

/-- R181: the final decision: 0 kind, 1 cause, 2 i, 3 j, 4 grade, 5 length index, 6–7 value, 8 source, 9 bin, 10 flags,
11–12 saw set. -/
def decisionField : Option FinalDecision → List Byte
  | none => List.replicate 13 0xFF#8
  | some d =>
    (match d.what with
      | .piece i j g => [0x00#8, 0xFF#8, byteOf i, byteOf j, gradeField g, byteOf (j - i)]
      | .waste _ => [0x01#8, 0xFF#8, 0xFF#8, 0xFF#8, 0xFF#8, 0xFF#8]
      | .pass => [0x02#8, 0xFF#8, 0xFF#8, 0xFF#8, 0xFF#8, 0xFF#8]
      | .fallback c => [0x03#8, causeField c, 0xFF#8, 0xFF#8, 0xFF#8, 0xFF#8]) ++
      le2 d.value ++ [sourceField d.source, (match d.bin with | none => 0xFF#8 | some n => byteOf n)] ++
      [byteOf
        ((if d.flags.reduced then 1 else 0) + (if d.flags.capped then 2 else 0) + (if d.flags.overrideUnused then 4 else 0) +
          (if d.flags.noBank then 8 else 0) + (if d.flags.altBin then 16 else 0) + (if d.flags.binDefault then 32 else 0) +
          (if d.flags.truncated then 64 else 0))] ++
      (match d.what with
        | .piece i j _ => pairField i j
        | .waste saws => le2 saws.toNat
        | .pass => [0x00#8, 0x00#8]
        | .fallback _ => [0x00#8, 0x00#8])

/-- R181: the advisory decision: 0 kind, 1 cause, 2 i, 3 j, 4 grade, 5 length index, 6–7 value, 8 flags, 9–10 saw set. That
value, flags and saw set of a FALLBACK hold the absent values is THE MODEL'S READING (log entry 15, DEDUCED). -/
def advisoryField : Option Advisory → List Byte
  | none => List.replicate 11 0xFF#8
  | some (.piece i j g v reduced capped) =>
    [0x00#8, 0xFF#8, byteOf i, byteOf j, byteOf g, byteOf (j - i)] ++ le2 v ++
      [byteOf ((if reduced then 1 else 0) + (if capped then 2 else 0))] ++ pairField i j
  | some (.waste saws reduced) =>
    [0x01#8, 0xFF#8, 0xFF#8, 0xFF#8, 0xFF#8, 0xFF#8, 0x00#8, 0x00#8, if reduced then 0x01#8 else 0x00#8] ++ le2 saws.toNat
  | some (.fallback c) => [0x03#8, causeField c] ++ List.replicate 9 0xFF#8

/-- R181: the override: 0 kind, 1 i, 2 j, 3 grade, 4 port, 5 regrade status, 6 regrade grade, 7–8 regrade value, 9 UNUSED. -/
def overrideField : Option Override → List Byte
  | none => List.replicate 10 0xFF#8
  | some o =>
    [overrideKindField o.kind] ++
      (match o.kind with
        | .setGrade g => [0xFF#8, 0xFF#8, byteOf g]
        | .setTrim i j => [byteOf i, byteOf j, 0xFF#8]
        | .setBoth i j g => [byteOf i, byteOf j, byteOf g]
        | .waste => [0xFF#8, 0xFF#8, 0xFF#8]
        | .pass => [0xFF#8, 0xFF#8, 0xFF#8]) ++
      [(match o.fromPort with | .line => 0x00#8 | .console => 0x01#8),
        (match o.status with | .none => 0x00#8 | .pending => 0x01#8 | .noRegrade => 0x02#8)] ++
      (match o.result with | none => [0xFF#8, 0xFF#8, 0xFF#8] | some r => [byteOf r.grade] ++ le2 r.value) ++
      [if o.unused then 0x01#8 else 0x00#8]

/-- R178: a stamp: its length, or 0xFF when absent, and 12 characters, 0x20 beyond the length. -/
def stampField : Option (List Byte) → List Byte
  | none => [0xFF#8] ++ List.replicate 12 0x20#8
  | some text => [byteOf text.length] ++ text ++ List.replicate (12 - text.length) 0x20#8

/-- R183, R184: the sampled set in 2 bytes and the outcome. That an absent set holds 0xFFFF is THE MODEL'S READING (log
entry 35, DEDUCED). -/
def sampledField : Option Sampled → List Byte
  | none => [0xFF#8, 0xFF#8, 0xFF#8]
  | some x => le2 x.saws.toNat ++ [match x.outcome with | .normal => 0x00#8 | .mismatch => 0x01#8]

/-- R184: the zone marks in 12 bytes, 0xFF where there is none. -/
def marksField (marks : List ZoneMark) : List Byte :=
  (List.range 12).map fun z =>
    match marks[z]? with
    | none => 0xFF#8
    | some .good => 0x00#8
    | some .stale => 0x01#8
    | some .incomplete => 0x02#8
    | some .blind => 0x03#8
    | some .poison => 0x04#8

/-- R178: an optional tag with its presence byte. The two bytes of an absent tag hold no field: they are free (log entry 13). -/
def tagField (filler : BitVec 16) : Option Tag → List Byte
  | some t => le2 t.toNat ++ [0x01#8]
  | none => le2 filler.toNat ++ [0x00#8]

/-- R182: a configuration: 0 HN, 1–2 ZP, 3 SN, 4–5 SP, 6–7 SO, 8 D, 9 H, 10 M, 11 AW, 12 HD, 13–14 K, 15–16 CI, 17–18 OL,
19–20 CT, 21–22 VM. -/
def configField (c : LineParams) : List Byte :=
  [byteOf c.hn] ++ le2 c.zp ++ [byteOf c.sn] ++ le2 c.sp ++ le2 c.so ++
    [byteOf c.d, byteOf c.h, byteOf c.m, byteOf c.aw, byteOf c.hd] ++ le2 c.k ++ le2 c.ci ++ le2 c.ol ++ le2 c.ct ++ le2 c.vm

/-- R187, R189: the manual pattern. -/
def patternField : ManualPattern → List Byte
  | .piece i j g => [0x00#8, byteOf i, byteOf j, gradeField g]
  | .waste => [0x01#8]
  | .pass => [0x02#8]

/-- R188, R47: a log record: sequence number, run id, length, SED, LED, litres, flags. -/
def LogRecord.fields (r : LogRecord) : List Byte :=
  le4 r.sequence.toNat ++ le2 (r.run.getD 0) ++ le2 r.length ++ le2 r.sed ++ le2 r.led ++ le2 r.litres ++
    [byteOf ((if r.suspect then 1 else 0) + (if r.overlength then 2 else 0) + (if r.unattributed then 4 else 0))]

/-- R183: bytes 0 to 40 of DECISION and BOARD_VIEW: 0–1 tag, 2–3 run id, 4–16 final decision, 17–29 stamp, 30–40 advisory
decision. -/
def Board.fields (b : Board) : List Byte :=
  le2 b.tag.toNat ++ le2 (b.run.getD 0) ++ decisionField b.decision ++ stampField b.stamp ++ advisoryField b.advisory

/-- R183: a BOARD_VIEW: 0–40 as DECISION, 41–50 override, 51 occasion. -/
def Board.viewFields (b : Board) (occasion : Byte) : List Byte := b.fields ++ overrideField b.override ++ [occasion]

/-- R183: a DISPATCH: 0–1 tag, 2–3 run id, 4–16 final decision, 17–18 sampled set, 19 outcome, 20 bin output or 0xFF (bin 0
on a MISMATCH, R134), 21–33 stamp, 34 UNMARKED. -/
def Board.dispatchFields (b : Board) (unmarked : Bool) : List Byte :=
  le2 b.tag.toNat ++ le2 (b.run.getD 0) ++ decisionField b.decision ++ sampledField b.sampled ++
    [match b.sampled, b.decision with
      | some x, some d =>
        match x.outcome, d.bin with
        | .mismatch, _ => 0x00#8
        | .normal, some n => byteOf n
        | .normal, none => 0xFF#8
      | _, _ => 0xFF#8] ++
    stampField b.stamp ++ [if unmarked then 0x01#8 else 0x00#8]

/-! ### Windows on a table -/

/-- R59, R60: the cells of a window's rectangle lie in its table, and the cursor in the rectangle. -/
def LoadWindow.inTable (w : LoadWindow) : Prop :=
  windowFits w = true ∧ w.firstRow ≤ w.row ∧ w.row ≤ w.lastRow ∧ w.firstCol ≤ w.col ∧ w.col ≤ w.lastCol

/-- A cell of a window's rectangle. -/
def LoadWindow.covers (w : LoadWindow) (row col : Nat) : Prop :=
  w.firstRow ≤ row ∧ row ≤ w.lastRow ∧ w.firstCol ≤ col ∧ col ≤ w.lastCol

/-! ### Counting in a run -/

/-- R153: a counter after an addition: it holds at its maximum, and its flag is set from there on. -/
def Counter.raised (c : Counter) (top n : Nat) : Counter :=
  { value := min top (c.value + n), saturated := c.saturated || decide (top ≤ c.value + n) }

/-- R150, R153: t's tally is s's but for the counters of the run `r`: each counter named in `adds` is raised by what stands
there, and every other counter is as before. -/
def State.raisedIn (s t : State) (r : Run) (adds : List (Nat × Nat)) : Prop :=
  ∃ cs : List Counter,
    t.tally =
        { s.tally with runs := s.tally.runs.map fun q => if q.id = r.id then { q with counters := cs } else q } ∧
      cs.length = r.counters.length ∧
      (∀ a ∈ adds, cs[a.1]? = some ((r.counter a.1).raised (counterTop a.1) a.2)) ∧
      ∀ k, (∀ a ∈ adds, a.1 ≠ k) → cs[k]? = r.counters[k]?

/-- R153, R164: the TALLY_SATURATED notices of additions to the counters of the run `r`, each counter named once in `adds`: one
for each flag that goes from clear to set, in the order of the additions; none where the notice mask excludes them. -/
def State.saturationNotices (s : State) (r : Run) (adds : List (Nat × Nat)) : List Frame :=
  if s.line.noticeMask.getLsbD 6 = true then
    (adds.filter fun a =>
      !(r.counter a.1).saturated && decide (counterTop a.1 ≤ (r.counter a.1).value + a.2)).map fun a =>
        { kind := 0x48#8, tag := 0#8, body := [0x06#8] ++ le2 r.id ++ [byteOf a.1, 0xFF#8] }
  else []

/-- R153, R164: the TALLY_SATURATED notices of additions of 1, one after another, each given as a run's id and one of its
counters and possibly named more than once: one for the addition that takes a clear flag's counter to its maximum; none where
the notice mask excludes them. -/
def State.noticesOfOnes (s : State) (ones : List (Nat × Nat)) : List Frame :=
  if s.line.noticeMask.getLsbD 6 = true then
    (List.range ones.length).flatMap fun m =>
      let one := ones.getD m (0, 0)
      let before := (ones.take m).count one
      match s.findRun one.1 with
      | none => []
      | some r =>
        let c := r.counter one.2
        if c.saturated = false ∧ counterTop one.2 ≤ c.value + before + 1 ∧ (before = 0 ∨ c.value + before < counterTop one.2) then
          [{ kind := 0x48#8, tag := 0#8, body := [0x06#8] ++ le2 one.1 ++ [byteOf one.2, 0xFF#8] }]
        else []
  else []

/-- R171: frames offered one after another to an outbound queue of n places, r of them reserved. -/
def PortState.offers (q : PortState) (n r : Nat) (frames : List Frame) : PortState :=
  frames.foldl (fun x f => x.offer n r f) q

/-! ### Invariants -/

/-- The canonical form of both banks' cells. -/
def State.memoryWf (s : State) : Prop := cellsWf s.rules.bankA.cells ∧ cellsWf s.rules.bankB.cells

/-- R156: the line is STOPPED exactly while the latch holds a fault. -/
def State.stopAgrees (s : State) : Prop := s.line.state = .stopped ↔ s.lineStop = true

/-- R171: no outbound queue holds more frames than it has places. -/
def State.queuesFit (s : State) : Prop :=
  s.linePort.outbound.length ≤ Config.linePlaces ∧ s.consolePort.outbound.length ≤ Config.consolePlaces

/-- R137: bin 0 is never full. -/
def State.binZeroFree (s : State) : Prop := s.outfeed.binFull.getLsbD 0 = false

/-- R158: in CONFIGURING nothing is in flight, every grading engine is IDLE (R76), and the engines own the trimmer (R108). -/
def State.configuringEmpty (s : State) : Prop :=
  s.line.state = .configuring →
    s.tracker.ring = [] ∧ s.intake.calibrations = [] ∧ s.grading.queue = [] ∧ s.grading.regrades = [] ∧
      (∀ e ∈ s.grading.engines, e = .idle) ∧ s.patterns = [] ∧ s.outfeed.applied = none ∧ s.trimmer.ownership = .auto

/-- R123: CAL_OVERDUE and SAW_FAULT follow the head and saw tables. -/
def State.attentionFollows (s : State) : Prop :=
  (s.trimmer.attention.calOverdue = true ↔ ∃ h ∈ s.intake.heads, h.state = .stale) ∧
    (s.trimmer.attention.sawFault = true ↔ ∃ w ∈ s.outfeed.saws, w.state = .faulted)

/-- R153: every tally counter is at most its maximum, and its flag is set exactly at the maximum. -/
def State.countersFlagged (s : State) : Prop :=
  ∀ r ∈ s.tally.runs, ∀ k, (r.counter k).value ≤ counterTop k ∧
    ((r.counter k).saturated = true ↔ (r.counter k).value = counterTop k)

/-- R26, R68, R127: the fixed tables; R66, R67, R47, R38, R141: the collections within their places. -/
def State.capacities (s : State) : Prop :=
  s.intake.heads.length = Config.headCount ∧ s.grading.engines.length = Config.engineCount ∧
    s.outfeed.saws.length = Config.sawCount ∧ s.grading.queue.length ≤ Config.queuePlaces ∧
    s.grading.regrades.length ≤ Config.regradePlaces ∧ s.logs.memory.length ≤ Config.logMemoryPlaces ∧
    s.tally.runs.length ≤ Config.runPlaces ∧
    ∀ l, s.logs.current = some l → l.samples.length ≤ Config.logSamplePlaces

/-- R157: the joint limits on the line's distances. -/
def LineParams.geometry (c : LineParams) : Prop :=
  1 ≤ c.aw ∧ 1 ≤ c.h ∧ c.h + c.aw + 2 ≤ c.d ∧ c.d ≤ 32 ∧ c.m ≤ 8

/-- R7, R11, R12, R14: what the position p of a record says of its state. -/
def placedRight (c : LineParams) (p : Nat) (b : Board) : Prop :=
  p < c.d + c.m ∧ (b.state = .scanning → p < c.aw ∧ b.window.isSome = true) ∧
    (c.d - c.h ≤ p → b.state = .committed ∨ b.state = .cut) ∧ (c.d ≤ p → b.state = .cut)

/-- R12, R14, R15, R66: distances in their limits, no two records of one tag, every record where its state belongs, and
the evaluation queue naming QUEUED records, each once, the earliest tag first. -/
def State.ringInOrder (s : State) : Prop :=
  s.config.geometry ∧ (s.tracker.ring.map fun b => b.tag).Nodup ∧
    (∀ b ∈ s.tracker.ring, placedRight s.config (s.position b.tag) b) ∧
    s.grading.queue.Nodup ∧ (∀ t ∈ s.grading.queue, ∃ b ∈ s.tracker.ring, b.tag = t ∧ b.state = .queued) ∧
    s.grading.queue.Pairwise fun t u => s.position u < s.position t

/-- R68, R69: three engines, and none of them is free while a board or a regrade waits. -/
def State.arbiterDone (s : State) : Prop :=
  s.grading.engines.length = Config.engineCount ∧
    (Engine.idle ∈ s.grading.engines → s.grading.queue = [] ∧ s.grading.regrades = [])

/-- R106: the saw pattern queue holds one entry for each COMMITTED record, in
the order of the ring, which is tag order; what is COMMITTED or CUT has passed the horizon. The queue's 31 places hold them,
since no more than 30 positions lie there. -/
def State.patternsFollow (s : State) : Prop :=
  s.tracker.ring.Pairwise (fun x y => s.position y.tag < s.position x.tag) ∧
    (∀ b ∈ s.tracker.ring, b.state = .committed ∨ b.state = .cut → s.config.d - s.config.h ≤ s.position b.tag) ∧
    (s.patterns.map fun e => e.tag) =
      ((s.tracker.ring.filter fun b => b.state == .committed).map fun b => b.tag) ∧
    s.patterns.length ≤ 30

/-- R21: no defect list holds more than 40 items. -/
def State.defectsFit (s : State) : Prop := ∀ b ∈ s.tracker.ring, b.defects.length ≤ Config.defectPlaces

/-- R141: ids are unique and in their range, T and W too, every run has its 133 counters, at most one run is PENDING and at
most one OPEN. R57: a bank named by a run that is not CLOSED is LOADED. -/
def State.runTableLawful (s : State) : Prop :=
  (s.tally.runs.map fun r => r.id).Nodup ∧
    (∀ r ∈ s.tally.runs, (1 ≤ r.id ∧ r.id ≤ 65535) ∧ (10 ≤ r.thickness ∧ r.thickness ≤ 400) ∧
      (10 ≤ r.width ∧ r.width ≤ 400) ∧ r.counters.length = counterCount ∧
      (r.state ≠ .closed → (s.bank r.bank).state = .loaded)) ∧
    (s.tally.runs.filter fun r => r.state == .pending).length ≤ 1 ∧
    (s.tally.runs.filter fun r => r.state == .isOpen).length ≤ 1

/-- R146, R147: a record before the saw line has its run in the table, OPEN or CLOSING, and that run's bank (R10). -/
def State.boardsOwned (s : State) : Prop :=
  ∀ b ∈ s.tracker.ring, b.state ≠ .cut → ∀ id, b.run = some id →
    ∃ r ∈ s.tally.runs, r.id = id ∧ b.bank = some r.bank ∧ (r.state = .isOpen ∨ r.state = .closing)

/-- A pair and a grade within R77 and R97: 1 ≤ j − i ≤ 12, and an index of at most 8. -/
def pieceFits (i j : Nat) (g : Grade) : Prop := i < j ∧ j - i ≤ 12 ∧ ∀ n, g = .index n → n ≤ 8

/-- R78, R83, R84: an advisory decision names a piece in its limits; a NO_RUN fallback is for a board with no run (R25). -/
def Board.advisoryFits (b : Board) : Prop :=
  (∀ i j g v reduced capped, b.advisory = some (.piece i j g v reduced capped) → pieceFits i j (.index g)) ∧
    (b.advisory = some (.fallback .noRun) → b.run = none)

/-- R89, R117: an override and its regrade result are within their limits. -/
def Board.overrideWithin (b : Board) : Prop :=
  ∀ o, b.override = some o →
    (∀ g, o.kind = .setGrade g → g ≤ 8) ∧ (∀ i j, o.kind = .setTrim i j → pieceFits i j .ungraded) ∧
      (∀ i j g, o.kind = .setBoth i j g → pieceFits i j (.index g)) ∧ ∀ r, o.result = some r → r.grade ≤ 8

/-- R97, R105: a final decision names a piece in its limits; a NO_RUN fallback is for a board with no run; and a COMMITTED
record holds a final decision. -/
def Board.decisionFits (b : Board) : Prop :=
  (∀ d, b.decision = some d →
      (∀ i j g, d.what = .piece i j g → pieceFits i j g) ∧ (d.what = .fallback .noRun → b.run = none)) ∧
    (b.state = .committed → b.decision.isSome = true)

/-- R51, R60, R77, R97, R115: what keeps every piece within 12 lengths and 9 grades: at most 13 saws, bank parameters in
their ranges, a load window in its table, and pairs and grades in their limits wherever they are held. -/
def State.piecesFit (s : State) : Prop :=
  s.config.sn ≤ 13 ∧
    (∀ n, gradeCount (s.bank n) ≤ 8 ∧ blindCap (s.bank n) ≤ 8 ∧ staleCap (s.bank n) ≤ 8) ∧
    (∀ w, s.rules.window = some w → w.inTable) ∧
    (∀ i j g, s.trimmer.pattern = .piece i j g → pieceFits i j g) ∧
    ∀ b ∈ s.tracker.ring, b.advisoryFits ∧ b.overrideWithin ∧ b.decisionFits

/-- Whether a record has been counted as scanned and not yet past the saw line (R152). -/
def Board.counted (b : Board) : Bool :=
  b.state == .queued || b.state == .evaluating || b.state == .decided || b.state == .committed

/-- R152: a run's scanned count, while it has not saturated, is the number of its boards before the saw line and the sum of
its thirteen outcome counters, DISCARDED included. -/
def State.runsBalance (s : State) : Prop :=
  ∀ r ∈ s.tally.runs, (r.counter scannedCounter).value < Config.max32 →
    (r.counter scannedCounter).value =
      (s.tracker.ring.filter fun b => b.counted && b.run == some r.id).length +
        ((List.range 13).map fun k => (r.counter (pieceGradedCounter + k)).value).sum

end Sys2Proof.Machine
end

