-- ==== Sys2Proof/Certificates/Slice0/Obligations.lean ====
section
/-! DEFINITION. The statements for the provers. `s.asks p f` says that request frame f waits on port p with a place free
for its reply; `s.answered p f r fields` is the state s after that request is answered with result r and those fields and
nothing else has changed, so an equation with it says what stays as well as what moves. -/

open Sys2Proof Sys2Proof.Machine

/-! ### The queue of commands, the resets -/

/-- Section "each whole and indivisible" of 95_what_each_step_holds.md: one step takes the command at the front. -/
def Obligations.StepTakesTheFrontCommand : Prop :=
  ∀ (c : Instr) (q : List Instr) (s : State), step (s.withPending (c :: q)) = exec c (s.withPending q)

/-- THE MODEL'S CHOICE (log entry 3): a step with no command waiting is one millisecond of the silence timer of R113.
THE MODEL'S CHOICE (log entry 11): HEAD_CAL_DUE and HEAD_STALE make the transitions of R27 for a head whose counter
stands at 0, and do nothing otherwise.
R27: the counters' part of a lug event, `before` being the state the event found: a counter is decremented for a head that
was and is ACTIVE, or was and is PENDING_CAL; at 0 the one becomes PENDING_CAL with OL, the other STALE with its notice; every
other head is left, one that the same event made ACTIVE among them. -/
def Obligations.TimeDrivenStepsAtZero : Prop :=
  (∀ s : State, s.pending = [] →
      (s.trimmer.timer = none → step s = .next s) ∧
      (∀ n, s.trimmer.timer = some n → 1 < n →
        step s = .next { s with trimmer := { s.trimmer with timer := some (n - 1) } }) ∧
      (∀ n, s.trimmer.timer = some n → n ≤ 1 → step s = exec .silenceTimerExpiry s)) ∧
  (∀ (s : State) (h : Nat) (e : Head), 1 ≤ h → s.intake.heads[h - 1]? = some e →
      (e.state = .active → e.counter = 0 →
        exec (.headCalDue h) s =
          .next
            { s with
              intake :=
                { s.intake with
                  heads := s.intake.heads.set (h - 1) { e with state := .pendingCal, counter := s.line.config.ol } } }) ∧
      (e.state ≠ .active ∨ e.counter ≠ 0 → exec (.headCalDue h) s = .next s) ∧
      (e.state = .pendingCal → e.counter = 0 →
        exec (.headStale h) s =
          .next
            ((State.notice
              { s with intake := { s.intake with heads := s.intake.heads.set (h - 1) { e with state := .stale } } }
              (.headStale h)).refreshAttention)) ∧
      (e.state ≠ .pendingCal ∨ e.counter ≠ 0 → exec (.headStale h) s = .next s)) ∧
  (∀ before u : State, 1 ≤ u.line.config.ol →
      let v := before.lugPart u .counters
      let quiet : State :=
        { u with intake := { heads := v.intake.heads, calibrations := u.intake.calibrations }, draws := u.draws + 1 }
      v.intake.heads.length = u.intake.heads.length ∧
      (∀ (k : Nat) (e b : Head), u.intake.heads[k]? = some e → before.intake.heads[k]? = some b →
        (e.state = .active → b.state = .active →
          v.intake.heads[k]? =
            some
              (if e.counter ≤ 1 then { e with state := .pendingCal, counter := u.line.config.ol }
              else { e with counter := e.counter - 1 })) ∧
        (e.state = .pendingCal → b.state = .pendingCal →
          v.intake.heads[k]? =
            some (if e.counter ≤ 1 then { e with state := .stale, counter := 0 } else { e with counter := e.counter - 1 })) ∧
        (e.state ≠ .pendingCal → e.state ≠ .active ∨ b.state ≠ .active → v.intake.heads[k]? = some e)) ∧
      ((∀ e ∈ u.intake.heads, e.state = .pendingCal → 2 ≤ e.counter) → v = quiet) ∧
      (∀ (k : Nat) (e b : Head), u.intake.heads[k]? = some e → before.intake.heads[k]? = some b → e.state = .pendingCal →
        b.state = .pendingCal → e.counter ≤ 1 →
        (∀ (j : Nat) (x : Head), u.intake.heads[j]? = some x → x.state = .pendingCal → j = k ∨ 2 ≤ x.counter) →
        v = (quiet.notice (.headStale (k + 1))).refreshAttention))

/-- R163, R157: power-on and the RESET pin bring the part to its initial state, whose values the spec gives, and so does the
completion of a PART_RESET once the reply and a frame begun on either port have been sent to their ends. The input
pins and the model's own `draws` and `pending` stay (log entries 6 and 22). -/
def Obligations.PowerOnAndResetPinRestart : Prop :=
  ∀ s : State, ∃ t : State, exec .powerOn s = .next t ∧ exec .resetPin s = .next t ∧
    (s.line.resetting = true → s.linePort.outbound = [] → s.consolePort.outbound = [] →
      exec .partResetComplete s = .next t) ∧
    t.tracker = { serial := 0#16, homeCount := 0, synced := false, eye := none, ring := [] } ∧
    t.intake.calibrations = [] ∧ t.intake.heads.length = 12 ∧
    (∀ h ∈ t.intake.heads, h = { state := .absent, counter := 0, misses := 0, latch := false, membership := none }) ∧
    t.logs = { current := none, memory := [], nextSequence := 0#32 } ∧
    t.rules.window = none ∧ t.rules.bankA.state = .empty ∧ t.rules.bankB.state = .empty ∧
    (∀ table row col, row < 256 → col < 256 →
      cellValue t.rules.bankA table row col =
        (if table = .names ∨ table = .labels ∨ table = .fallbackStamp then 0x20 else 0)) ∧
    t.rules.bankB = t.rules.bankA ∧
    t.grading = { engines := [.idle, .idle, .idle], queue := [], regrades := [] } ∧ t.patterns = [] ∧
    t.trimmer.ownership = .auto ∧ t.trimmer.pattern = .pass ∧ t.trimmer.timer = none ∧
    t.trimmer.attention = { calOverdue := false, sawFault := false, valueLoss := false } ∧ t.trimmer.valueLoss = 0 ∧
    t.outfeed.saws.length = 13 ∧ (∀ w ∈ t.outfeed.saws, w = { state := .inService, mismatches := 0 }) ∧
    t.outfeed.applied = none ∧ t.outfeed.binCode = 0 ∧ t.outfeed.binFull = 0#64 ∧
    t.tally.runs = [] ∧ t.tally.logRun = none ∧
    t.tally.unattributed = { scanned := 0, cut := 0, discarded := 0, logs := 0, litres := 0, debris := 0 } ∧
    t.line.state = .configuring ∧ t.line.latch = { lugSkip := false, allHeadsLost := false } ∧
    t.line.noticeMask = 0x1FF#9 ∧ t.line.drain = none ∧ t.line.resetting = false ∧
    t.line.config =
      { hn := 0, zp := 610, sn := 0, sp := 610, so := 30, d := 20, h := 4, m := 2, aw := 2, hd := 2, k := 0, ci := 2000,
        ol := 200, ct := 3000, vm := 500 } ∧
    (∀ p, t.port p =
      { rx := { state := .hunting, held := [] }, inbound := none, outbound := [], lost := 0, priorityLoss := 0,
        overrun := 0 }) ∧
    t.selection = 7#3 ∧ t.pins = s.pins ∧ t.draws = s.draws ∧ t.pending = s.pending

/-- R163: PART_RESET is answered OK, cuts both queues to what is being sent, and the reset follows the last byte of the reply
and of a frame begun on the console port, which is sent to its end too.
R163: between the taking of a PART_RESET and the reset, frames and pulses are ignored, an engine writes nothing, an
expiry only stops the timer, and no report is offered. What R163 does not say of this time (what waits for which frame, that
the receivers run on, the pin levels of a LUG pulse) is THE MODEL'S READING (log entry 10, DEDUCED). -/
def Obligations.PartResetIsTakenAndCompleted : Prop :=
  ((∀ (s : State) (f : Frame), s.asks .line f → f.kind = 0x05#8 →
      exec (.partReset .line) s =
        .next
          (if f.body = [] then
            { s with
              linePort :=
                { s.linePort with
                  inbound := none
                  outbound := s.linePort.outbound.take 1 ++ [{ kind := 0x85#8, tag := f.tag, body := [0x00#8] }] }
              consolePort := { s.consolePort with outbound := s.consolePort.outbound.take 1 }
              line := { s.line with resetting := true }
              draws := s.draws + 1 }
          else s.answered .line f .badFormat [])) ∧
    ∀ s : State, s.line.resetting = true →
      (s.linePort.outbound = [] → s.consolePort.outbound = [] →
        ∃ t : State, exec .partResetComplete s = .next t ∧ exec .resetPin s = .next t) ∧
      (s.linePort.outbound ≠ [] ∨ s.consolePort.outbound ≠ [] → exec .partResetComplete s = .next s)) ∧
  (∀ s : State, s.line.resetting = true →
      (∀ sender serial ok body, exec (.zoneReport sender serial ok body) s = .next s ∧
        exec (.calResult sender serial ok body) s = .next s ∧ exec (.logBegin serial ok body) s = .next s ∧
        exec (.logSamples serial ok body) s = .next s ∧ exec (.logEnd serial ok body) s = .next s) ∧
      (∀ e fb m, exec (.lugEvent e fb m) s =
        .next { s with pins := { eyeLoaded := e, feedback := fb, markerReady := m } }) ∧
      exec .homePulse s = .next s ∧
      (∀ e, exec (.evaluationComplete e) s = .next s ∧ exec (.regradeComplete e) s = .next s) ∧
      exec .silenceTimerExpiry s = .next { s with trimmer := { s.trimmer with timer := none } } ∧
      (∀ p k t body, body.length ≤ 240 →
        exec (.frameReceived p k t body) s =
          .next (s.setPort p { s.port p with rx := { state := .hunting, held := [] } })) ∧
      (∀ p k body, s.offer p k body = s))

/-! ### Encoder pulses -/

/-- R1, R2, R3, R6, R15, R18: what a lug event does whatever the order of its parts; and that it is its seven parts in some
order after the serial, the home count and the eye sample (that the order is free is THE MODEL'S CHOICE, log entry 4).
R10, R18, R144: the scan event: the switch of runs, the new record with its run, bank and window, the LUG_MARK.
R23, R30, R31: position AW: the record there, if SCANNING, closes, and each head missing there takes a miss. -/
def Obligations.LugEventAdvancesTheLine : Prop :=
  (∀ (s : State) (e : Bool) (fb : SawSet) (m : Bool), (s.line.state = .running ∨ s.line.state = .stopped) →
    s.line.resetting = false →
    (∃ order : List LugPart, order.Perm [.scan, .counters, .calibrate, .window, .horizon, .outfeed, .closing] ∧
      exec (.lugEvent e fb m) s =
        .next
          (State.lugEventWith
            { s with pins := { eyeLoaded := e, feedback := fb, markerReady := m }, draws := s.draws + 1 } e order)) ∧
    ∃ t : State, exec (.lugEvent e fb m) s = .next t ∧
      t.tracker.serial = s.tracker.serial + 1#16 ∧ t.tracker.homeCount = min 65535 (s.tracker.homeCount + 1) ∧
      t.tracker.synced = s.tracker.synced ∧
      t.tracker.eye = some { loaded := e, serial := s.tracker.serial + 2#16 } ∧
      t.pins = { eyeLoaded := e, feedback := fb, markerReady := m } ∧
      Output.link (sentFrame .lugMark (s.tracker.serial + 1#16) []) ∈ t.outputs ∧
      (∀ b ∈ t.tracker.ring, b.tag = s.tracker.serial + 1#16 ∨ ∃ a ∈ s.tracker.ring, a.tag = b.tag) ∧
      s.sameExcept
        [.tracker, .intake, .grading, .patterns, .trimmer, .outfeed, .tally, .line, .linePort, .consolePort, .pins,
          .outputs, .draws] t ∧
      t.line.config = s.line.config ∧ t.line.noticeMask = s.line.noticeMask ∧
      t.line.latch.lugSkip = s.line.latch.lugSkip ∧ t.trimmer.timer = s.trimmer.timer ∧
      t.outfeed.binFull = s.outfeed.binFull ∧ s.outputs <+: t.outputs) ∧
  (∀ (u : State) (e : Bool) (order : List LugPart),
    u.lugEventWith e order =
      order.foldl (fun x part => u.lugPart x part)
        { u with
          tracker :=
            { u.tracker with
              serial := u.tracker.serial + 1#16
              homeCount := min 65535 (u.tracker.homeCount + 1)
              eye := some { loaded := e, serial := u.tracker.serial + 2#16 } } }) ∧
  (∀ before u : State, (∀ b ∈ u.tracker.ring, b.tag ≠ u.tracker.serial) →
    let t := u.tracker.serial
    let switched : List Run :=
      match u.tally.runs.find? (fun r => r.state == .pending) with
      | none => u.tally.runs
      | some p =>
        if p.startTag = t then
          u.tally.runs.map fun r =>
            if r.state = .isOpen then { r with state := .closing, endTag := some (r.endTag.getD (t - 1#16)) }
            else if r.state = .pending then { r with state := .isOpen }
            else r
        else u.tally.runs
    let opened := switched.find? fun r => r.state == .isOpen
    let ended := switched.map fun r => if r.state = .isOpen ∧ r.endTag = some t then { r with state := .closing } else r
    let expected := fun h : Nat =>
      decide (h ≤ u.line.config.hn) && decide ((u.head h).state ≠ .retired) && decide ((u.head h).state ≠ .absent) &&
        decide ((u.head h).membership ≠ some t)
    let record : Board :=
      { tag := t, state := .scanning, run := opened.map fun r => r.id, bank := opened.map fun r => r.bank, number := none
        length := none, overlength := false, defects := [], marks := [], tracking := false, advisory := none
        override := none, decision := none, stamp := none, sampled := none, unmarked := false
        window := some ((List.range 12).map fun k =>
          { expected := expected (k + 1), outcome := .none, present := false, endPos := none, stale := false
            overflow := false, truncated := false }) }
    let v := before.lugPart u .scan
    v.outputs = u.outputs ++ [.link (sentFrame .lugMark t [])] ∧
    ((∃ h, 1 ≤ h ∧ h ≤ 12 ∧ expected h = true) →
      v =
        { u with
          tracker := { u.tracker with ring := u.tracker.ring ++ [record] }
          tally := { u.tally with runs := ended }
          outputs := u.outputs ++ [.link (sentFrame .lugMark t [])] }) ∧
    ((∀ h, 1 ≤ h → h ≤ 12 → expected h = false) → (∀ c ∈ u.intake.calibrations, c.serial ≠ t) →
      v.tracker = u.tracker ∧ v.tally = { u.tally with runs := ended })) ∧
  (∀ before u : State,
    let t := u.tracker.serial - BitVec.ofNat 16 u.line.config.aw
    let v := before.lugPart u .window
    (∀ c ∈ u.intake.calibrations, c.serial ≠ t) →
    ((∀ b ∈ u.tracker.ring, b.tag = t → b.state ≠ .scanning) → v = { u with draws := u.draws + 1 }) ∧
    (∀ (b : Board) (w : List HeadView), (u.tracker.ring.map fun x => x.tag).Nodup → b ∈ u.tracker.ring → b.tag = t →
      b.state = .scanning → b.window = some w → w.length = 12 →
      let missing := fun h : Nat =>
        decide ((viewOf w h).expected = true ∧ ((viewOf w h).outcome = .none ∨ (viewOf w h).outcome = .resendSent))
      (∀ h, missing h = true → (u.head h).misses < 2) →
      v.tracker = (u.closeBoard t).1.tracker ∧ v.tally = (u.closeBoard t).1.tally ∧
        v.grading = (u.closeBoard t).1.grading ∧ v.line = (u.closeBoard t).1.line ∧
        v.linePort = (u.closeBoard t).1.linePort ∧ v.consolePort = (u.closeBoard t).1.consolePort ∧
        ∀ (k : Nat) (e : Head), u.intake.heads[k]? = some e →
          v.intake.heads[k]? = some (if missing (k + 1) then { e with misses := e.misses + 1 } else e)))

/-- R3, R4, R160: a HOME pulse in RUNNING or STOPPED, by the synchronisation state, K and the home count.
R1, R3: LUG and HOME pulses in CONFIGURING are ignored. That the pins then hold the levels the LUG command brought is THE MODEL'S
CHOICE (log entry 6, DESIGN CHOICE). -/
def Obligations.HomePulseChecksTheCount : Prop :=
  (∀ s : State, (s.line.state = .running ∨ s.line.state = .stopped) → s.line.resetting = false →
      ((s.tracker.synced = false ∨ s.line.config.k = 0 ∨ s.tracker.homeCount = s.line.config.k) →
        exec .homePulse s = .next { s with tracker := { s.tracker with homeCount := 0, synced := true } }) ∧
      (s.tracker.synced = true → s.line.config.k ≠ 0 → s.tracker.homeCount ≠ s.line.config.k →
        exec .homePulse s =
          .next
            { s with
              tracker :=
                { s.tracker with
                  homeCount := 0
                  ring := s.tracker.ring.map fun b => { b with tracking := true } }
              line := { s.line with state := .stopped, latch := { s.line.latch with lugSkip := true } }
              linePort :=
                s.linePort.offer 32 8
                  { kind := 0x49#8, tag := 0#8
                    body := [0x00#8] ++ le2 s.tracker.serial.toNat ++
                      [if s.line.latch.allHeadsLost then 0x03#8 else 0x01#8] }
              consolePort :=
                s.consolePort.offer 16 4
                  { kind := 0x49#8, tag := 0#8
                    body := [0x00#8] ++ le2 s.tracker.serial.toNat ++
                      [if s.line.latch.allHeadsLost then 0x03#8 else 0x01#8] } })) ∧
  (∀ s : State, s.line.state = .configuring →
      (∀ e fb m, exec (.lugEvent e fb m) s =
        .next { s with pins := { eyeLoaded := e, feedback := fb, markerReady := m } }) ∧
      exec .homePulse s = .next s)

/-- R166, R171, R17: a discarded zone-link frame changes nothing; a gap or a bad stop bit empties the receiver; a frame
sent leaves the queue. That a FRAME_SENT with no frame queued changes nothing is THE MODEL'S CHOICE (log entry 1, DESIGN CHOICE).
R166: one byte at a time: a hunting receiver ignores every byte but 0xA5; a length above 240 discards the frame; a
wrong check word discards it without a trace. -/
def Obligations.ReceiversDiscardSilently : Prop :=
  (∀ s : State, (∀ bytes, exec (.zoneLinkFrameDiscard bytes) s = .next s) ∧
      (∀ p, exec (.interByteGapTimeout p) s =
          .next (s.setPort p { s.port p with rx := { state := .hunting, held := [] } }) ∧
        exec (.noValidStopBit p) s = .next (s.setPort p { s.port p with rx := { state := .hunting, held := [] } }) ∧
        exec (.frameSent p) s = .next (s.setPort p { s.port p with outbound := (s.port p).outbound.tail }))) ∧
  (∀ (s : State) (p : Port) (b : Byte),
      ((s.port p).rx.state = .hunting → b ≠ 0xA5#8 → exec (.portByteReceived p b) s = .next s) ∧
      ((s.port p).rx.state = .hunting →
        exec (.portByteReceived p 0xA5#8) s = .next (s.setPort p { s.port p with rx := { state := .header, held := [] } })) ∧
      (∀ lo, (s.port p).rx = { state := .header, held := [lo] } → 240 < lo.toNat + 256 * b.toNat →
        exec (.portByteReceived p b) s = .next (s.setPort p { s.port p with rx := { state := .hunting, held := [] } })) ∧
      (∀ covered c, (s.port p).rx = { state := .check, held := covered ++ [c] } → covered.length = 4 + halfAt covered 0 →
        [c, b] ≠ checkBytes covered →
        exec (.portByteReceived p b) s = .next (s.setPort p { s.port p with rx := { state := .hunting, held := [] } })))

/-! ### The zone link: board heads -/

/-- R17, R19, R21, R31: a good ZONE_REPORT from a head whose answer is outstanding, with another head's still awaited; and
the reports that are discarded. R23: a report that completes the expected set closes the record early, with the settlements
of the calibration held for its serial (`works`, stated by CalResultIsHeldOrSettled), none where none is held. R180: the bodies
that are read, byte by byte, each item's faces in the low 4 bits of its last byte. -/
def Obligations.GoodZoneReportIsTaken : Prop :=
  (∀ (body : List Byte) (z : ZoneBody),
    parseZoneReport body = some z ↔
      (∀ n, z.endPos = some n → n < 65535) ∧ z.items.length ≤ 12 ∧
        (∀ it ∈ z.items,
          it.kind < 256 ∧ it.start < 65536 ∧ it.stop < 65536 ∧ it.size < 65536 ∧ it.severity < 256) ∧
        ∃ faces : List Byte,
          faces.length = z.items.length ∧ (∀ x ∈ z.items.zip faces, x.1.faces = x.2.setWidth 4) ∧
            body =
              [if z.present then 0x01#8 else 0x00#8] ++
                (match z.endPos with | none => [0xFF#8, 0xFF#8] | some n => le2 n) ++
                [if z.truncated then 0x01#8 else 0x00#8, byteOf z.items.length] ++
                (z.items.zip faces).flatMap fun x =>
                  [byteOf x.1.kind] ++ le2 x.1.start ++ le2 x.1.stop ++ le2 x.1.size ++ [byteOf x.1.severity, x.2]) ∧
  ∀ (s : State) (sender : Byte) (serial : Tag) (body : List Byte) (z : ZoneBody),
    parseZoneReport body = some z →
    (∀ (b : Board) (w : List HeadView), (s.line.state = .running ∨ s.line.state = .stopped) → s.line.resetting = false →
      1 ≤ sender.toNat → sender.toNat ≤ s.line.config.hn → (s.head sender.toNat).state ≠ .absent →
      (s.tracker.ring.map fun x => x.tag).Nodup → b ∈ s.tracker.ring → b.tag = serial → b.state = .scanning →
      b.window = some w → (viewOf w sender.toNat).expected = true →
      ((viewOf w sender.toNat).outcome = .none ∨ (viewOf w sender.toNat).outcome = .resendSent) →
      let awaits := fun k : Nat =>
        k ≠ sender.toNat ∧ (viewOf w k).expected = true ∧
          ((viewOf w k).outcome = .none ∨ (viewOf w k).outcome = .resendSent)
      let taken : State :=
        { s with
          tracker :=
            { s.tracker with
              ring := s.tracker.ring.map fun x =>
                if x.tag = serial then
                  { x with
                    defects := (admitItems s.line.config.zp sender.toNat b.defects z).items
                    window := some (w.modify (sender.toNat - 1) fun v =>
                      { v with
                        outcome := .good, present := z.present, endPos := z.endPos
                        stale := (s.head sender.toNat).state == .stale
                        overflow := (admitItems s.line.config.zp sender.toNat b.defects z).overflow
                        truncated := (admitItems s.line.config.zp sender.toNat b.defects z).truncated }) }
                else x }
          intake :=
            { s.intake with heads := s.intake.heads.modify (sender.toNat - 1) fun e => { e with misses := 0 } } }
      ((∃ k, awaits k) → exec (.zoneReport sender serial true body) s = .next taken) ∧
      ((∀ k, ¬awaits k) →
        exec (.zoneReport sender serial true body) s = .next (taken.works [.close serial]) ∧
        ((∀ c ∈ s.intake.calibrations, c.serial = serial → ∀ m ∈ c.members, m.outcome = none) →
          exec (.zoneReport sender serial true body) s = .next (taken.closeBoard serial).1))) ∧
    ((s.line.state = .configuring ∨ sender.toNat = 0 ∨ s.line.config.hn < sender.toNat ∨
        (s.head sender.toNat).state = .absent ∨
        ∀ b ∈ s.tracker.ring, b.tag = serial → b.state = .scanning → ∀ w, b.window = some w →
          (viewOf w sender.toNat).expected = false ∨ (viewOf w sender.toNat).outcome = .good ∨
            (viewOf w sender.toNat).outcome = .poison) →
      exec (.zoneReport sender serial true body) s = .next s)

/-- R21: the items of a taken report, in their order: the list becomes the old one with, in report order, the first
40 − n of the report's well-formed items of the head's own zone, n being the old length, each with its own kind and fields and
source head h; malformed items and a truncated report truncate the zone, and items that find the list full overflow it. -/
def Obligations.ItemsAreAdmittedInOrder : Prop :=
  ∀ (zp h : Nat) (defects : List Defect) (z : ZoneBody), defects.length ≤ 40 →
    let wellFormed := fun it : ZoneItem =>
      decide (it.kind ≤ 5 ∧ it.start ≤ 8000 ∧ it.stop ≤ 8000 ∧ it.start < it.stop ∧ it.size ≤ 1000 ∧ it.severity ≤ 15)
    let inZone := fun it : ZoneItem => decide ((h - 1) * zp ≤ it.start ∧ it.start < h * zp)
    let fitting := z.items.filter fun it => wellFormed it && inZone it
    let a := admitItems zp h defects z
    a.items =
        defects ++
          (fitting.take (40 - defects.length)).map (fun it =>
            { kind :=
                (match it.kind with | 0 => .knot | 1 => .hole | 2 => .split | 3 => .wane | 4 => .stain | _ => .decay)
              start := it.start, stop := it.stop, size := it.size, severity := it.severity, faces := it.faces
              source := h }) ∧
    a.items.length ≤ 40 ∧
    (∀ d ∈ a.items.drop defects.length,
      d.source = h ∧ (h - 1) * zp ≤ d.start ∧ d.start < h * zp ∧ d.start < d.stop ∧ d.stop ≤ 8000 ∧ d.size ≤ 1000 ∧
        d.severity ≤ 15) ∧
    (a.truncated = true ↔ z.truncated = true ∨ ∃ it ∈ z.items, wellFormed it = false) ∧
    (a.overflow = true ↔ 40 < defects.length + fitting.length)

/-- R20, R31, R35, R17, R180: a corrupt ZONE_REPORT by the head's outcome: RESEND once, then POISON with its miss and notice.
R32: the third miss retires the head, with its notices, and takes it out of every record being assembled. R23: a POISON that
completes the expected set closes the record. The order of these effects is THE MODEL'S READING (log entry 16, DEDUCED): the
miss with its retirement first, then HEAD_POISON considered on the latch that the retirement has cleared, so that it is offered
after HEAD_RETIRED and the latch is left set, and then the close. -/
def Obligations.CorruptZoneReportIsAnswered : Prop :=
  ∀ (s : State) (sender : Byte) (serial : Tag) (ok : Bool) (body : List Byte) (b : Board) (w : List HeadView),
    (ok = false ∨ parseZoneReport body = none) →
    (s.line.state = .running ∨ s.line.state = .stopped) → s.line.resetting = false →
    1 ≤ sender.toNat → sender.toNat ≤ s.line.config.hn → (s.head sender.toNat).state ≠ .absent →
    (s.tracker.ring.map fun x => x.tag).Nodup → b ∈ s.tracker.ring → b.tag = serial → b.state = .scanning →
    b.window = some w → (viewOf w sender.toNat).expected = true →
    let h := sender.toNat
    let awaits := fun (y : List HeadView) (k : Nat) =>
      k ≠ h ∧ (viewOf y k).expected = true ∧ ((viewOf y k).outcome = .none ∨ (viewOf y k).outcome = .resendSent)
    let headPoison := fun x : State =>
      if s.line.noticeMask.getLsbD 2 = false then x
      else x.offer .line 0x48#8 ([0x02#8, sender] ++ le2 serial.toNat ++ [0xFF#8])
    let poisoned : State :=
      { s with
        tracker :=
          { s.tracker with
            ring := s.tracker.ring.map fun x =>
              if x.tag = serial then { x with window := some (w.modify (h - 1) fun v => { v with outcome := .poison }) }
              else x }
        intake :=
          { s.intake with
            heads := s.intake.heads.modify (h - 1) fun e => { e with misses := (s.head h).misses + 1, latch := true } } }
    let noticed := if (s.head h).latch = true then poisoned else headPoison poisoned
    ((viewOf w h).outcome = .none →
      exec (.zoneReport sender serial ok body) s =
        .next
          { s with
            tracker :=
              { s.tracker with
                ring := s.tracker.ring.map fun x =>
                  if x.tag = serial then
                    { x with window := some (w.modify (h - 1) fun v => { v with outcome := .resendSent }) }
                  else x }
            outputs := s.outputs ++ [.link (sentFrame .resend serial [sender])] }) ∧
    (((viewOf w h).outcome = .good ∨ (viewOf w h).outcome = .poison) →
      exec (.zoneReport sender serial ok body) s = .next s) ∧
    ((viewOf w h).outcome = .resendSent → (s.head h).misses < 2 →
      ((∃ k, awaits w k) → exec (.zoneReport sender serial ok body) s = .next noticed) ∧
      ((∀ k, ¬awaits w k) → (∀ c ∈ s.intake.calibrations, c.serial ≠ serial) →
        exec (.zoneReport sender serial ok body) s = .next (noticed.closeBoard serial).1)) ∧
    (∀ e, (viewOf w h).outcome = .resendSent → s.intake.heads[h - 1]? = some e → 2 ≤ e.misses →
      (∀ x ∈ s.tracker.ring, x.state = .scanning → ∀ y, x.window = some y → ∃ k, awaits y k) →
      (∃ k, 1 ≤ k ∧ k ≤ s.line.config.hn ∧ k ≠ h ∧ (s.head k).state ≠ .retired) →
      exec (.zoneReport sender serial ok body) s =
        .next
          (let retired : State :=
            State.refreshAttention
              { s with
                tracker :=
                  { s.tracker with
                    ring := s.tracker.ring.map fun x =>
                      match x.state, x.window with
                      | .scanning, some y =>
                        { x with
                          window :=
                            some (y.set (h - 1)
                              { expected := false, outcome := .none, present := false, endPos := none, stale := false
                                overflow := false, truncated := false })
                          defects := x.defects.filter fun d => d.source ≠ h }
                      | _, _ => x }
                intake :=
                  { heads := s.intake.heads.set (h - 1)
                      { state := .retired, counter := 0, misses := 0, latch := true, membership := none }
                    calibrations := s.intake.calibrations.map fun c =>
                      { c with members := c.members.filter fun m => m.head ≠ h } }
                draws := s.draws + 1 }
          headPoison
            (if s.line.noticeMask.getLsbD 0 = false then retired
            else retired.offer .line 0x48#8 [0x00#8, sender, 0xFF#8, 0xFF#8, 0xFF#8])))

/-- R30: a good CAL_RESULT of a member without an outcome is held until assembly closes, or settled at once; any other is
discarded. R28: the part of a lug event that opens a calibration: for an empty lug and the heads that are due and in no other,
with its CALIBRATE frame.
R29, R30, R31: when assembly closes for a calibration's serial each held outcome is settled, as DISTURBED where the record is kept;
at position AW each member without an outcome is settled FAILED, after the close if it is due there, and the calibration is
closed. (Stated where no miss is a head's third.) -/
def Obligations.CalResultIsHeldOrSettled : Prop :=
  (∀ (s : State) (sender : Byte) (serial : Tag) (body : List Byte) (o : CalOutcome) (c : Calibration),
    (s.line.state = .running ∨ s.line.state = .stopped) → s.line.resetting = false →
    1 ≤ sender.toNat → sender.toNat ≤ s.line.config.hn → (s.head sender.toNat).state ≠ .absent →
    body = [match o with | .good => 0#8 | .disturbed => 1#8 | .failed => 2#8] →
    exec (.calResult sender serial false body) s = .next s ∧
    ((∀ x ∈ s.intake.calibrations, x.serial ≠ serial) → exec (.calResult sender serial true body) s = .next s) ∧
    ((s.intake.calibrations.map fun x => x.serial).Nodup → c ∈ s.intake.calibrations → c.serial = serial →
      ({ head := sender.toNat, outcome := none } ∉ c.members → exec (.calResult sender serial true body) s = .next s) ∧
      ({ head := sender.toNat, outcome := none } ∈ c.members →
        (c.kept = none →
          exec (.calResult sender serial true body) s =
            .next
              { s with
                intake :=
                  { s.intake with
                    calibrations := s.intake.calibrations.map fun x =>
                      if x.serial = serial then
                        { x with
                          members := x.members.map fun m =>
                            if m.head = sender.toNat then { m with outcome := some o } else m }
                      else x } }) ∧
        (c.kept = some false → o = .good →
          exec (.calResult sender serial true body) s =
            .next
              (State.refreshAttention
                { s with
                  intake :=
                    { heads := s.intake.heads.modify (sender.toNat - 1) fun e =>
                        { e with state := .active, counter := s.line.config.ci, misses := 0, membership := none }
                      calibrations := s.intake.calibrations.map fun x =>
                        { x with members := x.members.filter fun m => m.head ≠ sender.toNat } } })) ∧
        ((c.kept = some true ∨ (c.kept = some false ∧ o = .disturbed)) →
          exec (.calResult sender serial true body) s =
            .next
              { s with
                intake :=
                  { heads := s.intake.heads.modify (sender.toNat - 1) fun e => { e with membership := none }
                    calibrations := s.intake.calibrations.map fun x =>
                      { x with members := x.members.filter fun m => m.head ≠ sender.toNat } } }) ∧
        (c.kept = some false → o = .failed → (s.head sender.toNat).misses < 2 →
          exec (.calResult sender serial true body) s =
            .next
              { s with
                intake :=
                  { heads := s.intake.heads.modify (sender.toNat - 1) fun e =>
                      { e with membership := none, misses := (s.head sender.toNat).misses + 1 }
                    calibrations := s.intake.calibrations.map fun x =>
                      { x with members := x.members.filter fun m => m.head ≠ sender.toNat } } })))) ∧
  (∀ before u : State, u.intake.heads.length = 12 →
    let due := ((List.range 12).map (· + 1)).filter fun h =>
      ((u.head h).state == .pendingCal || (u.head h).state == .stale) && (u.head h).membership == none
    (∀ e, u.tracker.eye = some e → e.loaded = false → due ≠ [] →
      before.lugPart u .calibrate =
        { u with
          intake :=
            { heads := u.intake.heads.map fun x =>
                if (x.state = .pendingCal ∨ x.state = .stale) ∧ x.membership = none then
                  { x with membership := some e.serial }
                else x
              calibrations :=
                u.intake.calibrations ++
                  [{ serial := e.serial, members := due.map fun h => { head := h, outcome := none }, kept := none }] }
          outputs := u.outputs ++ [.link (sentFrame .calibrate e.serial (le2 (due.map fun h => 2 ^ h).sum))] }) ∧
    ((u.tracker.eye = none ∨ (∃ e, u.tracker.eye = some e ∧ e.loaded = true) ∨ due = []) →
      before.lugPart u .calibrate = u)) ∧
  (∀ (u : State) (c : Calibration), u.intake.heads.length = 12 →
    (u.intake.calibrations.map fun x => x.serial).Nodup → c ∈ u.intake.calibrations →
    (c.members.map fun m => m.head).Nodup → (∀ m ∈ c.members, 1 ≤ m.head ∧ m.head ≤ 12 ∧ (u.head m.head).misses < 2) →
    let settled := fun (o : CalOutcome) (e : Head) =>
      match o with
      | .good => { e with state := .active, counter := u.line.config.ci, misses := 0, membership := none }
      | .disturbed => { e with membership := none }
      | .failed => { e with misses := e.misses + 1, membership := none }
    let without := fun (l : List Member) (x : Calibration) =>
      { x with members := x.members.filter fun m => l.all fun q => q.head != m.head }
    (∀ (b : Board) (w : List HeadView), (u.tracker.ring.map fun x => x.tag).Nodup → b ∈ u.tracker.ring → b.tag = c.serial →
      b.state = .scanning → b.window = some w → w.length = 12 →
      (∀ m ∈ c.members, (viewOf w m.head).expected = false) →
      let missing := fun h : Nat =>
        decide ((viewOf w h).expected = true ∧ ((viewOf w h).outcome = .none ∨ (viewOf w h).outcome = .resendSent))
      (∀ h, missing h = true → (u.head h).misses < 2) →
      let kept := w.any fun v => v.present || v.outcome == .poison
      let after := fun (h : Nat) (e : Head) =>
        if missing h = true then { e with misses := e.misses + 1 }
        else
          match c.members.find? fun m => m.head == h with
          | some ⟨_, some o⟩ => settled (if kept then .disturbed else o) e
          | _ => e
      let closed := (u.closeBoard c.serial).1
      let sameAsClosed := fun v : State =>
        v.tracker = closed.tracker ∧ v.tally = closed.tally ∧ v.grading = closed.grading ∧ v.line = closed.line ∧
          v.linePort = closed.linePort ∧ v.intake.heads.length = 12 ∧
          u.sameExcept [.tracker, .intake, .grading, .trimmer, .tally, .line, .linePort, .consolePort, .draws] v
      (let v := u.works [.close c.serial]
      sameAsClosed v ∧
        (∀ (k : Nat) (e : Head), u.intake.heads[k]? = some e → v.intake.heads[k]? = some (after (k + 1) e)) ∧
        v.intake.calibrations =
          u.intake.calibrations.map fun x =>
            let y := without (c.members.filter fun m => m.outcome.isSome) x
            if x.serial = c.serial then { y with kept := some kept } else y) ∧
      (∀ before : State, u.tracker.serial - BitVec.ofNat 16 u.line.config.aw = c.serial →
        let v := before.lugPart u .window
        sameAsClosed v ∧
          (∀ (k : Nat) (e : Head), u.intake.heads[k]? = some e →
            v.intake.heads[k]? =
              some (if { head := k + 1, outcome := none } ∈ c.members then settled .failed e else after (k + 1) e)) ∧
          v.intake.calibrations =
            (u.intake.calibrations.filter fun x => x.serial ≠ c.serial).map (without c.members))) ∧
    ((∀ b ∈ u.tracker.ring, b.tag = c.serial → b.state ≠ .scanning) → (∀ m ∈ c.members, m.outcome = none) →
      ∀ before : State, u.tracker.serial - BitVec.ofNat 16 u.line.config.aw = c.serial →
        let v := before.lugPart u .window
        v =
            { u with
              intake :=
                { heads := v.intake.heads
                  calibrations :=
                    (u.intake.calibrations.filter fun x => x.serial ≠ c.serial).map (without c.members) }
              draws := u.draws + 1 } ∧
          v.intake.heads.length = 12 ∧
          ∀ (k : Nat) (e : Head), u.intake.heads[k]? = some e →
            v.intake.heads[k]? =
              some (if { head := k + 1, outcome := none } ∈ c.members then settled .failed e else e)))

/-- R24, R25, R149, R153, R22: the close of a SCANNING record: dropped when no head saw a board and no zone is POISON; else its
measured length, OVERLENGTH flag, clamped items and zone marks are filled in, it is counted as scanned and numbered, and it is
routed to the first cause that holds; its notices are QUEUE_FULL, and TALLY_SATURATED where its count saturates. R66, R69: with
no cause its tag joins the evaluation queue at its place in tag order, before the first later tag, and the arbiter acts
(`arbitrate`, stated by EvaluationCompleteWritesTheAdvisory). R5, R9, R10: it keeps its other fields, its run, bank and TRACKING
mark among them, and the other records of the ring stay, but for what the arbiter takes. That it is routed on the state as it
stands, before the misses of its missing heads, is THE MODEL'S READING (log entry 17, DEDUCED). -/
def Obligations.AssemblyCloseKeepsOrDrops : Prop :=
  ∀ (s : State) (b : Board) (w : List HeadView), (s.tracker.ring.map fun x => x.tag).Nodup → b ∈ s.tracker.ring →
    b.state = .scanning → b.window = some w →
    let t := (s.closeBoard b.tag).1
    let zp := s.line.config.zp
    ((∀ v ∈ w, v.present = false ∧ v.outcome ≠ .poison) →
      t.tracker.ring = (s.tracker.ring.filter fun x => x.tag ≠ b.tag) ∧ t.tally = s.tally) ∧
    ((∃ v ∈ w, v.present = true ∨ v.outcome = .poison) →
      ∃ x ∈ t.tracker.ring,
        x.tag = b.tag ∧ x.length = some (measure s.line.config w).1 ∧ x.marks = marksOf s.line.config w ∧
        x.window = none ∧ x.run = b.run ∧ x.bank = b.bank ∧ x.tracking = b.tracking ∧ x.override = b.override ∧
        x.decision = b.decision ∧ x.stamp = b.stamp ∧ x.sampled = b.sampled ∧ x.unmarked = b.unmarked ∧
        (x.state = .decided →
          t.tracker = { s.tracker with ring := s.tracker.ring.map fun y => if y.tag = b.tag then x else y } ∧
            t.grading = s.grading) ∧
        (∀ h, (viewOf w h).present = true → (∀ k, (viewOf w k).present = true → k ≤ h) →
          (∀ e, (viewOf w h).endPos = some e →
            x.length = some ((h - 1) * zp + min zp (max 1 e)) ∧ x.overlength = false) ∧
          ((viewOf w h).endPos = none → x.length = some (h * zp) ∧ x.overlength = decide (h = s.line.config.hn))) ∧
        ((∀ k, (viewOf w k).present = false) →
          ∀ h, (viewOf w h).outcome = .poison → (∀ k, (viewOf w k).outcome = .poison → k ≤ h) →
            x.length = some (h * zp) ∧ x.overlength = false) ∧
        (∀ n, x.length = some n →
          x.defects =
            (b.defects.filter fun d => decide (d.start < n)).map fun d => { d with stop := min d.stop n }) ∧
        (∀ z, x.marks[z]? =
          if z < s.line.config.hn then
            (w[z]?).map fun v =>
              if v.expected = false then .blind
              else
                match v.outcome with
                | .poison => .poison
                | .none => .blind
                | .resendSent => .blind
                | .good =>
                  if v.overflow = true ∨ v.truncated = true then .incomplete else if v.stale = true then .stale else .good
          else none) ∧
        (b.run = none → x.number = none ∧ t.tally.runs = s.tally.runs ∧
          t.tally.unattributed =
            { s.tally.unattributed with scanned := min 4294967295 (s.tally.unattributed.scanned + 1) } ∧
          t.linePort = s.linePort) ∧
        (∀ id r, b.run = some id → s.findRun id = some r → s.line.resetting = false →
          t.linePort =
            s.linePort.offers 32 8
              (s.saturationNotices r [(128, 1)] ++
                if x.state = .decided ∧ x.advisory = some (.fallback .queueFull) ∧
                    s.line.noticeMask.getLsbD 4 = true then
                  [{ kind := 0x48#8, tag := 0#8, body := [0x04#8] ++ le2 b.tag.toNat ++ [0xFF#8, 0xFF#8] }]
                else [])) ∧
        (∀ id r, b.run = some id → s.findRun id = some r → 128 < r.counters.length →
          x.number = some (min 4294967295 ((r.counter 128).value + 1)) ∧
            ((s.tally.runs.map fun q => q.id).Nodup → s.raisedIn t r [(128, 1)])) ∧
        ((∃ v ∈ w, v.outcome = .poison) → x.state = .decided ∧ x.advisory = some (.fallback .poison)) ∧
        ((∀ v ∈ w, v.outcome ≠ .poison) →
          (s.line.state = .stopped → x.state = .decided ∧ x.advisory = some (.fallback .stopped)) ∧
          (s.line.state ≠ .stopped →
            (b.run = none → x.state = .decided ∧ x.advisory = some (.fallback .noRun)) ∧
            (b.run ≠ none →
              (8 ≤ s.grading.queue.length → x.state = .decided ∧ x.advisory = some (.fallback .queueFull)) ∧
              (s.grading.queue.length < 8 →
                ((x.state = .queued ∧ x.tag ∈ t.grading.queue) ∨
                  (x.state = .evaluating ∧ ∃ sn r, Engine.evaluating b.tag sn r ∈ t.grading.engines)) ∧
                x.advisory = b.advisory ∧
                ∃ earlier later : List Tag,
                  s.grading.queue = earlier ++ later ∧ (∀ u ∈ earlier, s.position b.tag ≤ s.position u) ∧
                    (∀ u, later.head? = some u → s.position u < s.position b.tag) ∧
                    let joined : State :=
                      { s with
                        tracker :=
                          { s.tracker with
                            ring :=
                              s.tracker.ring.map fun y => if y.tag = b.tag then { x with state := .queued } else y }
                        grading := { s.grading with queue := earlier ++ [b.tag] ++ later } }
                    t.tracker = joined.arbitrate.tracker ∧ t.grading = joined.arbitrate.grading)))))

/-! ### The zone link: log head -/

/-- R37, R40, R41: LOG_BEGIN opens a log booked to the log station's run (a log in progress becomes debris, counted in its
booked run or in the unattributed figures, R39), LOG_SAMPLES appends up to 120 diameters or, corrupt, sets SUSPECT. That a
LOG_BEGIN is good with any body is THE MODEL'S READING (log entry 28, DEDUCED). R37, R180: the diameters that are read, byte
by byte. -/
def Obligations.LogFramesBuildTheLog : Prop :=
  (∀ (body : List Byte) (ds : List Nat),
    parseLogSamples body = some ds ↔
      1 ≤ ds.length ∧ ds.length ≤ 20 ∧ (∀ d ∈ ds, d < 65536) ∧ body = [byteOf ds.length] ++ ds.flatMap le2) ∧
  ∀ (s : State) (serial : Tag) (ok : Bool) (body : List Byte), s.line.resetting = false →
    (s.logs.current = none →
      exec (.logBegin serial ok body) s =
          .next
            { s with
              logs :=
                { s.logs with
                  current := some { booking := s.bookingNow, samples := [], overlength := false, suspect := !ok } } } ∧
        exec (.logSamples serial ok body) s = .next s) ∧
    (∀ l, s.logs.current = some l →
      (∃ t : State, exec (.logBegin serial ok body) s = .next t ∧ s.sameExcept [.logs, .tally, .linePort] t ∧
        t.logs.memory = s.logs.memory ∧ t.logs.nextSequence = s.logs.nextSequence ∧
        t.logs.current =
          some { booking := s.bookingNow, samples := [], overlength := false, suspect := !ok } ∧
        (s.bookedRun l.booking = none →
          t.tally =
            { s.tally with
              unattributed :=
                { s.tally.unattributed with debris := min 4294967295 (s.tally.unattributed.debris + 1) } } ∧
          t.linePort = s.linePort) ∧
        (∀ id r, s.bookedRun l.booking = some id → (s.tally.runs.map fun q => q.id).Nodup → s.findRun id = some r →
          r.counters.length = 133 →
          s.raisedIn t r [(131, 1)] ∧ t.linePort = s.linePort.offers 32 8 (s.saturationNotices r [(131, 1)]))) ∧
      (∀ ds, ok = true → parseLogSamples body = some ds →
        exec (.logSamples serial ok body) s =
          .next
            { s with
              logs :=
                { s.logs with
                  current := some
                    { l with
                      samples := l.samples ++ ds.take (120 - l.samples.length)
                      overlength := l.overlength || decide (120 < l.samples.length + ds.length) } } }) ∧
      ((ok = false ∨ parseLogSamples body = none) →
        exec (.logSamples serial ok body) s =
          .next { s with logs := { s.logs with current := some { l with suspect := true } } }))

/-- R42, R43, R47, R48: LOG_END scales the log in progress: debris is counted; any other log becomes a record, joins the
memory of the 8 most recent, and is accounted, in its booked run or in the unattributed figures (R39); then LOG_SCALED with the
whole record (R188) is offered if selected, and LOG_SUSPECT if it applies. (`scale` and the SUSPECT flag it gives are stated by
LogFiguresOfASpan.) That a LOG_END is good with any body is THE MODEL'S READING (log entry 28, DEDUCED). -/
def Obligations.LogEndScalesTheLog : Prop :=
  ∀ (s : State) (serial : Tag) (ok : Bool) (body : List Byte), s.line.resetting = false →
    (s.logs.current = none → exec (.logEnd serial ok body) s = .next s) ∧
    (∀ l, s.logs.current = some l →
      ∃ t : State, exec (.logEnd serial ok body) s = .next t ∧ s.sameExcept [.logs, .tally, .linePort] t ∧
        t.logs.current = none ∧
        (scale l.samples = none →
          t.logs.memory = s.logs.memory ∧ t.logs.nextSequence = s.logs.nextSequence ∧
          (s.bookedRun l.booking = none →
            t.tally =
              { s.tally with
                unattributed :=
                  { s.tally.unattributed with debris := min 4294967295 (s.tally.unattributed.debris + 1) } } ∧
            t.linePort = s.linePort) ∧
          (∀ id r, s.bookedRun l.booking = some id → (s.tally.runs.map fun q => q.id).Nodup → s.findRun id = some r →
            r.counters.length = 133 →
            s.raisedIn t r [(131, 1)] ∧ t.linePort = s.linePort.offers 32 8 (s.saturationNotices r [(131, 1)]))) ∧
        (∀ z, scale l.samples = some z →
          let suspect := l.suspect || !ok || z.suspect
          let reports : List Frame :=
            (if s.selection.getLsbD 2 = true then
              [{ kind := 0x43#8, tag := 0#8
                 body :=
                  le4 s.logs.nextSequence.toNat ++ le2 (match l.booking with | some k => k.id | none => 0) ++
                    le2 z.length ++ le2 z.sed ++ le2 z.led ++ le2 z.litres ++
                    [byteOf
                      ((if suspect then 1 else 0) + (if l.overlength then 2 else 0) +
                        (if (s.bookedRun l.booking).isNone then 4 else 0))] }]
            else []) ++
              if suspect = true ∧ s.line.noticeMask.getLsbD 7 = true then
                [{ kind := 0x48#8, tag := 0#8, body := [0x07#8] ++ le4 s.logs.nextSequence.toNat }]
              else []
          t.logs.nextSequence = s.logs.nextSequence + 1#32 ∧
          t.logs.memory.getLast? =
            some
              { sequence := s.logs.nextSequence, run := l.booking.map fun k => k.id, length := z.length, sed := z.sed
                led := z.led, litres := z.litres, suspect := suspect, overlength := l.overlength
                unattributed := (s.bookedRun l.booking).isNone } ∧
          (s.logs.memory.length < 8 → s.logs.memory <+: t.logs.memory ∧ t.logs.memory.length = s.logs.memory.length + 1) ∧
          (s.logs.memory.length = 8 → t.logs.memory.length = 8 ∧ s.logs.memory.tail <+: t.logs.memory) ∧
          (s.bookedRun l.booking = none →
            t.tally.runs = s.tally.runs ∧
            t.tally.unattributed =
              { s.tally.unattributed with
                logs := min 4294967295 (s.tally.unattributed.logs + 1)
                litres := min 4294967295 (s.tally.unattributed.litres + z.litres) } ∧
            t.linePort = s.linePort.offers 32 8 reports) ∧
          (∀ id r, s.bookedRun l.booking = some id → (s.tally.runs.map fun q => q.id).Nodup → s.findRun id = some r →
            r.counters.length = 133 →
            let adds := [(129, 1), (130, z.litres)] ++ if suspect = true then [(132, 1)] else []
            s.raisedIn t r adds ∧ t.linePort = s.linePort.offers 32 8 (s.saturationNotices r adds ++ reports))))

/-- R43 to R46: a log whose samples, clamped at 1500, are a span with zeros before and after it: length, diameters and
litres of a span of 5 or more, debris of a shorter one. `held` are the span's samples with each zero replaced by the value
before it. R43, R44: scaling sets SUSPECT exactly when a sample is above 1500 or four samples on end in the span are held. -/
def Obligations.LogFiguresOfASpan : Prop :=
  ∀ (samples span held : List Nat) (a b : Nat),
    samples.map (fun d => min 1500 d) = List.replicate a 0 ++ span ++ List.replicate b 0 →
    span.head? ≠ some 0 → span.getLast? ≠ some 0 → held.length = span.length →
    (∀ k (_ : k < span.length), held.getD k 0 = if span.getD k 0 = 0 then held.getD (k - 1) 0 else span.getD k 0) →
    (span.length < 5 → scale samples = none) ∧
    (5 ≤ span.length →
      ∃ z, scale samples = some z ∧ z.length = 100 * span.length ∧
        (samples.length ≤ 120 → 500 ≤ z.length ∧ z.length ≤ 12000) ∧
        z.sed ∈ span ∧ z.sed ≠ 0 ∧ (∀ d ∈ span, d ≠ 0 → z.sed ≤ d) ∧ z.led ∈ span ∧ (∀ d ∈ span, d ≤ z.led) ∧
        1 ≤ z.sed ∧ z.sed ≤ 1500 ∧ 1 ≤ z.led ∧ z.led ≤ 1500 ∧
        z.litres = ((held.map fun d => d * d).sum * 7854 + 50000000) / 100000000 ∧
        (z.suspect = true ↔
          (∃ d ∈ samples, 1500 < d) ∨ ∃ k, k + 4 ≤ span.length ∧ ∀ j < 4, span.getD (k + j) 0 = 0) ∧
        (samples.length ≤ 120 →
          (held.map fun d => d * d).sum ≤ 270000000 ∧ (held.map fun d => d * d).sum * 7854 + 50000000 < 2 ^ 48 ∧
            z.litres ≤ 21206))

/-! ### The grading unit -/

/-- R72, R88: an engine that completes its evaluation writes the advisory decision, makes the board DECIDED, becomes IDLE
and offers a BOARD_VIEW; then the arbiter acts. That an engine that holds no evaluation does nothing is THE MODEL'S CHOICE (log
entry 1, DESIGN CHOICE).
R69, R70, R71, R79: what the arbiter takes. With no engine free or no work it changes nothing; else the lowest-numbered IDLE
engine takes the oldest regrade entry, not withdrawn, or, with none, the first board of the evaluation queue, EVALUATING from
then on, with the saws below SN that are IN and the REDUCED flag of its position; and the arbiter acts again. (The bytes of the
report are those of R181 and R183, a FALLBACK's advisory block by log entry 15.) -/
def Obligations.EvaluationCompleteWritesTheAdvisory : Prop :=
  (∀ (s : State) (e : Nat), 1 ≤ e → s.line.resetting = false →
    ((∀ t sn r, s.grading.engines[e - 1]? ≠ some (.evaluating t sn r)) → exec (.evaluationComplete e) s = .next s) ∧
    (∀ (t : Tag) (sn : SawSet) (r : Bool) (b : Board) (n : BankName),
      s.grading.engines[e - 1]? = some (.evaluating t sn r) → (s.tracker.ring.map fun x => x.tag).Nodup →
      b ∈ s.tracker.ring → b.tag = t → b.state = .evaluating → b.bank = some n →
      let done : Board := { b with advisory := some (evaluate s.line.config (s.bank n) b sn r), state := .decided }
      let u : State :=
        State.offer
          { s with
            tracker := { s.tracker with ring := s.tracker.ring.map fun x => if x.tag = t then done else x }
            grading := { s.grading with engines := s.grading.engines.set (e - 1) .idle } }
          .console 0x42#8 (done.viewFields 0x00#8)
      exec (.evaluationComplete e) s = .next u.arbitrate ∧
        (s.grading.queue = [] → s.grading.regrades = [] → exec (.evaluationComplete e) s = .next u))) ∧
  ∀ s : State, s.grading.engines.length = 3 →
    ((Engine.idle ∉ s.grading.engines ∨ (s.grading.queue = [] ∧ s.grading.regrades = [])) → s.arbitrate = s) ∧
    (∀ k, s.grading.engines[k]? = some .idle → (∀ j, j < k → s.grading.engines[j]? ≠ some .idle) →
      (∀ (x : RegradeEntry) (rest : List RegradeEntry), s.grading.regrades = x :: rest →
        s.arbitrate =
          State.arbitrate
            { s with
              grading :=
                { s.grading with
                  regrades := rest, engines := s.grading.engines.set k (.regrading x.tag x.i x.j false) } }) ∧
      (∀ (t : Tag) (rest : List Tag), s.grading.regrades = [] → s.grading.queue = t :: rest →
        ∃ sn : SawSet,
        (∀ n, sn.getLsbD n = true ↔ n < 13 ∧ n < s.line.config.sn ∧ (s.saw n).state = .inService) ∧
        let reduced := decide
          (0 < s.line.config.hd ∧
            s.line.config.d ≤ (s.tracker.serial - t).toNat + s.line.config.h + s.line.config.hd)
        s.arbitrate =
          State.arbitrate
            { s with
              tracker :=
                { s.tracker with
                  ring := s.tracker.ring.map fun b => if b.tag = t then { b with state := .evaluating } else b }
              grading :=
                { s.grading with queue := rest, engines := s.grading.engines.set k (.evaluating t sn reduced) } }))

/-- R74, R89: an engine that completes a regrade writes grade and value into the override and offers a BOARD_VIEW, or,
withdrawn, discards them; then it is IDLE and the arbiter acts (`arbitrate`, stated by EvaluationCompleteWritesTheAdvisory).
That an engine that holds no regrade does nothing is THE MODEL'S CHOICE (log entry 1, DESIGN CHOICE).
(The bytes of the report are those of R181 and R183, a FALLBACK's advisory block by log entry 15.) -/
def Obligations.RegradeCompleteWritesTheResult : Prop :=
  ∀ (s : State) (e : Nat), 1 ≤ e → s.line.resetting = false →
    ((∀ t i j x, s.grading.engines[e - 1]? ≠ some (.regrading t i j x)) → exec (.regradeComplete e) s = .next s) ∧
    (∀ (t : Tag) (i j : Nat), s.grading.engines[e - 1]? = some (.regrading t i j true) →
      let u : State := { s with grading := { s.grading with engines := s.grading.engines.set (e - 1) .idle } }
      exec (.regradeComplete e) s = .next u.arbitrate ∧
        (s.grading.queue = [] → s.grading.regrades = [] → exec (.regradeComplete e) s = .next u)) ∧
    (∀ (t : Tag) (i j : Nat) (b : Board) (n : BankName) (o : Override),
      s.grading.engines[e - 1]? = some (.regrading t i j false) → (s.tracker.ring.map fun x => x.tag).Nodup →
      b ∈ s.tracker.ring → b.tag = t → b.bank = some n → b.override = some o →
      let g := gradePiece s.line.config (s.bank n) b i j
      let done : Board := { b with override := some { o with result := some { grade := g.grade, value := g.value } } }
      let u : State :=
        State.offer
          { s with
            tracker := { s.tracker with ring := s.tracker.ring.map fun x => if x.tag = t then done else x }
            grading := { s.grading with engines := s.grading.engines.set (e - 1) .idle } }
          .console 0x42#8 (done.viewFields 0x01#8)
      exec (.regradeComplete e) s = .next u.arbitrate ∧
        (s.grading.queue = [] → s.grading.regrades = [] → exec (.regradeComplete e) s = .next u))

/-- R77, R78, R79, R86, R87: which pairs are eligible, and the choice: the highest value, then the greater length index,
then the smaller near saw; WASTE with no eligible pair. -/
def Obligations.BestPairIsChosen : Prop :=
  ∀ (c : LineParams) (bk : Bank) (b : Board) (sn : SawSet) (reduced : Bool),
    (∀ k : Candidate,
      k ∈ eligibleCandidates c bk b sn reduced ↔
        k.i < k.j ∧ k.j < c.sn ∧ hasSaw sn k.i = true ∧ hasSaw sn k.j = true ∧
          (reduced = true → ∀ m < k.i, hasSaw sn m = false) ∧ k.graded = gradePiece c bk b k.i k.j ∧
          minLengthIndex bk ≤ k.j - k.i ∧ c.so + k.j * c.sp ≤ b.length.getD 0 ∧ 0 < k.graded.value) ∧
    (eligibleCandidates c bk b sn reduced ≠ [] →
      ∃ k ∈ eligibleCandidates c bk b sn reduced,
        evaluate c bk b sn reduced =
          .piece k.i k.j k.graded.grade k.graded.value reduced (decide (k.graded.before < k.graded.grade)) ∧
        ∀ m ∈ eligibleCandidates c bk b sn reduced, m ≠ k →
          m.graded.value < k.graded.value ∨
            (m.graded.value = k.graded.value ∧
              (m.j - m.i < k.j - k.i ∨ (m.j - m.i = k.j - k.i ∧ k.i < m.i)))) ∧
    (eligibleCandidates c bk b sn reduced = [] →
      ∃ saws, evaluate c bk b sn reduced = .waste saws reduced ∧
        ∀ k, hasSaw saws k = true ↔ k < c.sn ∧ hasSaw sn k = true ∧ c.so + k * c.sp < b.length.getD 0)

/-- R80 to R84: the grade of a piece: the lowest index below the grade count that qualifies, REJECT when none does, raised
to the worst cap of the zones it overlaps; which items overlap and pass, the count test, and the cap of each mark. -/
def Obligations.GradeIsTheWorstOfItemsAndCaps : Prop :=
  (∀ (c : LineParams) (bk : Bank) (b : Board) (i j : Nat), gradeCount bk ≤ 8 →
    let lo := c.so + i * c.sp
    let hi := c.so + j * c.sp
    let g := gradePiece c bk b i j
    (g.before < gradeCount bk → qualifies bk b.defects lo hi g.before = true) ∧
    (∀ x, x < gradeCount bk → qualifies bk b.defects lo hi x = true → g.before ≤ x ∧ g.before < gradeCount bk) ∧
    ((∀ x, x < gradeCount bk → qualifies bk b.defects lo hi x = false) → g.before = 8) ∧
    g.before ≤ g.grade ∧
    (∀ z m k, b.marks[z]? = some m → z * c.zp < hi → lo < (z + 1) * c.zp → markCap bk m = some k → k ≤ g.grade) ∧
    (g.grade = g.before ∨
      ∃ z m, b.marks[z]? = some m ∧ z * c.zp < hi ∧ lo < (z + 1) * c.zp ∧ markCap bk m = some g.grade) ∧
    g.value = cellValue bk .price g.grade (j - i)) ∧
  (∀ (bk : Bank) (items : List Defect) (lo hi g : Nat),
    let on := items.filter fun d => decide (d.start < hi) && decide (lo < d.stop)
    let limits := fun (k : DefectKind) (field : Nat) =>
      cellValue bk .limits g
        (5 * (match k with | .knot => 0 | .hole => 1 | .split => 2 | .wane => 3 | .stain => 4 | .decay => 5) + field)
    (qualifies bk items lo hi g = true ↔
      (∀ d ∈ on, 0 < limits d.kind 0 ∧ d.size ≤ limits d.kind 0 ∧ d.severity ≤ limits d.kind 1 ∧
        min d.stop hi - max d.start lo ≤ limits d.kind 2) ∧
      ∀ k, (on.filter fun d => d.kind == k).length ≤ limits k 3 + limits k 4 * (hi - lo) / 10000)) ∧
  (∀ (bk : Bank) (m : ZoneMark),
    let applied := fun cap : Nat => if cap < cellValue bk .params 0 0 then cap else 8
    markCap bk m =
      match m with
      | .good => none
      | .stale => some (applied (cellValue bk .params 0 2))
      | .blind => some (applied (cellValue bk .params 0 1))
      | .incomplete => some (applied (cellValue bk .params 0 1))
      | .poison => some (applied (cellValue bk .params 0 1)))

/-! ### The commit, the saw line, the marker -/

/-- R92 to R105: the final decision of a board: which of the five cases decides, the saw check, source, value, bin, stamp and
flags. THE MODEL'S READINGS (log entries 18 and 24, DEDUCED): a SAW_OUT fallback drops REDUCED and CAPPED, NO_BANK is for a
PIECE alone, and OVERRIDE_UNUSED stays clear on a TRACKING record. -/
def Obligations.CommitFixesSourceValueAndBin : Prop :=
  ∀ (s : State) (b : Board),
    let d := (s.commitment b).decision
    let manual := decide (s.trimmer.ownership = .manual)
    let isIn := fun k : Nat => decide (k < s.line.config.sn) && decide ((s.saw k).state = .inService)
    let waste := s.wasteAtCommit b
    let byOverride : Option Chosen :=
      if b.tracking = true then none
      else
        match b.override with
        | none => none
        | some o =>
          match o.kind with
          | .waste => some (.waste waste)
          | .pass => some .pass
          | .setBoth i j g => some (.piece i j (.index g))
          | .setTrim i j => some (.piece i j (match o.result with | some r => .index r.grade | none => .ungraded))
          | .setGrade g =>
            match b.advisory with
            | some (.piece i j _ _ _ _) => some (.piece i j (.index g))
            | _ => none
    let byPattern : Chosen :=
      match s.trimmer.pattern with
      | .pass => .pass
      | .waste => .waste waste
      | .piece i j g =>
        if b.length.getD 0 < s.line.config.so + j * s.line.config.sp then .fallback .noFit else .piece i j g
    let chosen : Chosen :=
      if b.tracking = true then .fallback .tracking
      else
        match byOverride with
        | some c => c
        | none =>
          if manual = true then byPattern
          else
            match b.advisory with
            | some (.piece i j g _ _ _) => .piece i j (.index g)
            | some (.waste saws _) => .waste saws
            | some (.fallback c) => .fallback c
            | none => .fallback .late
    let checked : Chosen :=
      match chosen with
      | .piece i j g => if isIn i = true ∧ isIn j = true then .piece i j g else .fallback .sawOut
      | .waste saws => if (List.range 13).all (fun k => !hasSaw saws k || isIn k) then .waste saws else .fallback .sawOut
      | .pass => .pass
      | .fallback c => .fallback c
    let ofAdvisory := !b.tracking && byOverride.isNone && !manual && decide (checked = chosen)
    let ofSetGrade :=
      decide (checked = chosen) && byOverride.isSome &&
        (match b.override with | some o => (match o.kind with | .setGrade _ => true | _ => false) | none => false)
    (∀ k, hasSaw waste k = true ↔ k < 13 ∧ isIn k = true ∧ s.line.config.so + k * s.line.config.sp < b.length.getD 0) ∧
    d.what =
      (match checked, b.bank with
        | .piece i j _, none => .piece i j .ungraded
        | c, _ => c) ∧
    (s.commitment b).late = (!b.tracking && byOverride.isNone && !manual && b.advisory.isNone) ∧
    d.flags.reduced =
      (match b.advisory with
        | some (.piece _ _ _ _ r _) => (ofAdvisory || ofSetGrade) && r
        | some (.waste _ r) => ofAdvisory && r
        | _ => false) ∧
    d.flags.capped = (match b.advisory with | some (.piece _ _ _ _ _ c) => ofAdvisory && c | _ => false) ∧
    d.flags.overrideUnused = (!b.tracking && b.override.isSome && byOverride.isNone) ∧
    d.flags.noBank = (match checked with | .piece .. => b.bank.isNone | _ => false) ∧
    (d.source =
      match (if b.tracking then none else b.override.bind fun o => (s.overrideChoice b o).map fun _ => o.fromPort) with
      | some .console => .console
      | some .line => .host
      | none => if s.trimmer.ownership = .manual then .manual else .auto) ∧
    (byOverride.isSome = true ↔ ∃ o, b.override = some o ∧ b.tracking = false ∧ (s.overrideChoice b o).isSome = true) ∧
    (d.value =
      match d.what, b.bank with
      | .piece i j (.index g), some n => cellValue (s.bank n) .price g (j - i)
      | _, _ => 0) ∧
    (match d.what, b.bank with
      | .piece i j (.index g), some n =>
        let first := cellValue (s.bank n) .bins g (j - i)
        let alt := cellValue (s.bank n) .altBins 0 first
        if first = 0 ∨ s.outfeed.binFull.getLsbD first = false then
          d.bin = some first ∧ d.flags.altBin = false ∧ d.flags.binDefault = false
        else if alt ≠ 0 ∧ s.outfeed.binFull.getLsbD alt = false then
          d.bin = some alt ∧ d.flags.altBin = true ∧ d.flags.binDefault = false
        else d.bin = some 0 ∧ d.flags.altBin = false ∧ d.flags.binDefault = true
      | .waste _, _ => d.bin = none ∧ d.flags.altBin = false ∧ d.flags.binDefault = false
      | _, _ => d.bin = some 0 ∧ d.flags.altBin = false ∧ d.flags.binDefault = false) ∧
    (match d.what, b.bank with
      | .waste _, _ => (s.commitment b).stamp = none ∧ d.flags.truncated = false
      | _, none => (s.commitment b).stamp = some [] ∧ d.flags.truncated = false
      | .piece i j g, some n =>
        let bk := s.bank n
        let code := fun row : Nat => cellValue bk .stamp row 0
        let operand := fun row : Nat => cellValue bk .stamp row 1
        let fill := fun row : Nat =>
          match ((List.range row).filter fun q => code q == 8).getLast? with
          | some q => byteOf (operand q)
          | none => 0x20#8
        let number := fun row v : Nat =>
          (List.range (operand row)).map fun k =>
            let rest := v % 10 ^ operand row / 10 ^ (operand row - 1 - k)
            if rest = 0 ∧ k + 1 < operand row then fill row else byteOf (0x30 + rest % 10)
        let chars := ((List.range 16).takeWhile fun row => code row != 0).flatMap fun row =>
          match code row with
          | 1 => [byteOf (operand row)]
          | 2 => (match g with | .index x => rowText bk .names x | .ungraded => [0x3F#8])
          | 3 => rowText bk .labels (j - i)
          | 4 => number row (b.run.getD 0)
          | 5 => number row (b.number.getD 0)
          | 6 => [if d.source = .auto then fill row else byteOf (operand row)]
          | 7 => List.replicate (operand row) (fill row)
          | _ => []
        (s.commitment b).stamp = some (chars.take 12) ∧ d.flags.truncated = decide (12 < chars.length)
      | _, some n => (s.commitment b).stamp = some (rowText (s.bank n) .fallbackStamp 0) ∧ d.flags.truncated = false)

/-- R73, R91, R105, R106, R130: at the horizon the record there, not yet committed, takes its final decision and stamp under
the ownership that the event's resolution leaves, its entry joins the saw pattern queue (and is applied at once at D − 1), and
the grading unit gives up its work for it, whereupon the arbiter acts (`arbitrate`, stated by
EvaluationCompleteWritesTheAdvisory). R9: the record keeps its other fields, and the other records of the ring stay, but for
what the arbiter takes. R107, R124: the commit's reports and notices, and the value-loss accounting. R181, R183:
the bytes of DECISION and BOARD_VIEW; a FALLBACK's advisory block is THE MODEL'S READING (log entry 15, DEDUCED).
R91, R111, R112: a horizon event resolves a pending change of ownership before its board commits, with or without one. -/
def Obligations.HorizonCommitsTheBoard : Prop :=
  (∀ (s : State) (b : Board), s.line.config.geometry → (s.tracker.ring.map fun x => x.tag).Nodup →
      b ∈ s.tracker.ring → s.position b.tag = s.line.config.d - s.line.config.h →
      (b.state = .queued ∨ b.state = .evaluating ∨ b.state = .decided) →
      let u := s.resolveOwnership
      let k := u.commitment b
      let c : Board :=
        { b with
          state := .committed, decision := some k.decision, stamp := k.stamp
          override := b.override.map fun o => { o with unused := k.decision.flags.overrideUnused } }
      let v := s.horizonEvent
      let given : State :=
        { s with
          tracker := { s.tracker with ring := s.tracker.ring.map fun x => if x.tag = b.tag then c else x }
          grading :=
            { queue := s.grading.queue.filter fun t => t ≠ b.tag
              regrades := s.grading.regrades.filter fun e => e.tag ≠ b.tag
              engines := s.grading.engines.map fun e =>
                match e with
                | .evaluating t sn r => if t = b.tag then .idle else .evaluating t sn r
                | .regrading t i j x => .regrading t i j (x || t == b.tag)
                | .idle => .idle } }
      c ∈ v.tracker.ring ∧
      v.tracker = given.arbitrate.tracker ∧
      v.patterns = s.patterns ++ [{ tag := b.tag, saws := chosenSaws k.decision.what, bin := k.decision.bin }] ∧
      v.outfeed =
        { s.outfeed with
          applied :=
            if s.line.config.h = 1 then some { tag := b.tag, saws := chosenSaws k.decision.what } else s.outfeed.applied } ∧
      v.grading = given.arbitrate.grading ∧
      b.tag ∉ v.grading.queue ∧
      (∀ e ∈ v.grading.regrades, e.tag ≠ b.tag) ∧
      (∀ sn r, Engine.evaluating b.tag sn r ∉ v.grading.engines) ∧
      (∀ i j, Engine.regrading b.tag i j false ∉ v.grading.engines) ∧
      v.tally = s.tally ∧ v.rules = s.rules ∧ v.intake = s.intake ∧ v.line = s.line ∧ v.outputs = s.outputs ∧
      v.trimmer.ownership = u.trimmer.ownership ∧ v.trimmer.pattern = u.trimmer.pattern ∧
      (s.line.resetting = false →
        v.linePort =
          (let q := if s.selection.getLsbD 0 = true then
              u.linePort.offer 32 8
                { kind := 0x40#8, tag := 0#8
                  body := c.fields ++ [match c.override with | none => 0xFF#8 | some o => overrideKindField o.kind] }
            else u.linePort
          let q := if k.late = true ∧ s.line.noticeMask.getLsbD 3 = true then
              q.offer 32 8 { kind := 0x48#8, tag := 0#8, body := [0x03#8] ++ le2 b.tag.toNat ++ [0xFF#8, 0xFF#8] }
            else q
          if k.decision.flags.truncated = true ∧ s.line.noticeMask.getLsbD 8 = true then
            q.offer 32 8 { kind := 0x48#8, tag := 0#8, body := [0x08#8] ++ le2 b.tag.toNat ++ [0xFF#8, 0xFF#8] }
          else q) ∧
        (let q := u.consolePort.offer 16 4 { kind := 0x42#8, tag := 0#8, body := c.viewFields 0x02#8 }
        let accounted :=
          match k.decision.source, b.advisory with
          | .manual, some (.piece _ _ _ value _ _) => some (value - k.decision.value)
          | _, _ => none
        match accounted with
        | none => v.trimmer = u.trimmer ∧ v.consolePort = q
        | some n =>
          let sum := min 4294967295 (u.trimmer.valueLoss + n)
          if 0 < s.line.config.vm ∧ s.line.config.vm ≤ sum ∧ u.trimmer.attention.valueLoss = false then
            v.trimmer =
                { u.trimmer with valueLoss := sum, attention := { u.trimmer.attention with valueLoss := true } } ∧
              v.consolePort =
                q.offer 16 4
                  { kind := 0x4B#8, tag := 0#8
                    body :=
                      [byteOf
                          ((if u.trimmer.attention.calOverdue then 1 else 0) +
                            (if u.trimmer.attention.sawFault then 2 else 0) + 4)] ++
                        le4 sum ++ le2 s.line.config.vm }
          else v.trimmer = { u.trimmer with valueLoss := sum } ∧ v.consolePort = q))) ∧
  (∀ s : State, s.line.config.geometry →
      (∀ b ∈ s.tracker.ring, s.position b.tag = s.line.config.d - s.line.config.h →
        b.state = .scanning ∨ b.state = .committed ∨ b.state = .cut) →
      (s.tracker.ring.map fun x => x.tag).Nodup → s.horizonEvent = s.resolveOwnership) ∧
  (∀ s : State, s.line.resetting = false →
      let first := le2 (s.tracker.serial - (BitVec.ofNat 16 s.line.config.d - BitVec.ofNat 16 s.line.config.h)).toNat
      let report := fun (u : State) (owner : Byte) =>
        (u.offer .line 0x4A#8 ([owner, 0x03#8] ++ first)).offer .console 0x4A#8 ([owner, 0x03#8] ++ first)
      ((s.trimmer.ownership = .auto ∨ s.trimmer.ownership = .manual) → s.resolveOwnership = s) ∧
      (s.trimmer.ownership = .takePending →
        s.resolveOwnership = report { s with trimmer := { s.trimmer with ownership := .manual } } 0x02#8) ∧
      (∀ c, s.trimmer.ownership = .releasePending c →
        let u := report { s with trimmer := { s.trimmer with ownership := .auto, pattern := .pass } } 0x00#8
        let cleared : State :=
          { u with
            trimmer :=
              { u.trimmer with valueLoss := 0, attention := { u.trimmer.attention with valueLoss := false } } }
        s.resolveOwnership =
          if s.trimmer.attention.valueLoss = true then
            cleared.offer .console 0x4B#8
              ([byteOf
                  ((if s.trimmer.attention.calOverdue then 1 else 0) + (if s.trimmer.attention.sawFault then 2 else 0))] ++
                [0#8, 0#8, 0#8, 0#8] ++ le2 s.line.config.vm)
          else cleared)) ∧
  (∀ s : State,
      (s.trimmer.ownership = .takePending →
        s.horizonEvent.trimmer.ownership = .manual ∧ s.horizonEvent.trimmer.pattern = s.trimmer.pattern) ∧
      (∀ c, s.trimmer.ownership = .releasePending c →
        s.horizonEvent.trimmer.ownership = .auto ∧ s.horizonEvent.trimmer.pattern = .pass ∧
          s.horizonEvent.trimmer.valueLoss = 0 ∧ s.horizonEvent.trimmer.attention.valueLoss = false) ∧
      ((s.trimmer.ownership = .auto ∨ s.trimmer.ownership = .manual) →
        s.horizonEvent.trimmer.ownership = s.trimmer.ownership ∧ s.horizonEvent.trimmer.pattern = s.trimmer.pattern) ∧
      s.horizonEvent.trimmer.timer = s.trimmer.timer) ∧
  (∀ before u : State, before.lugPart u .horizon = u.horizonEvent)

/-- R132, R133: the saw table after a lug event's sampling: an IN saw that differs from its command counts up and faults
at 2, with its SAW_FAULT notice in saw order and the attention set following; every other count of a sampled saw is 0.
R129: the drop outputs: down for the saws of the applied set below SN, up for every other.
R129, R131: the outfeed's part of a lug event: sampling against the pattern that stood before it, the saw-line event of a
COMMITTED record at D, the marker event of a CUT record at D + M, then the applied pattern of the record at D − 1. -/
def Obligations.SamplingFaultsASawAtTwo : Prop :=
  (∀ (s : State) (before : Option Applied) (onBoard : Option Tag) (k : Nat) (w : Saw), s.outfeed.saws[k]? = some w →
    let down := match before with | none => false | some a => a.saws.getLsbD k
    (s.sampleSaws before onBoard).outfeed.saws[k]? =
      some
        (if s.line.config.sn ≤ k then w
        else if w.state = .inService ∧ down ≠ s.pins.feedback.getLsbD k then
          if 1 ≤ w.mismatches then { state := .faulted, mismatches := 0 } else { w with mismatches := 1 }
        else { w with mismatches := 0 })) ∧
  (∀ (s : State) (before : Option Applied) (onBoard : Option Tag), s.outfeed.saws.length = 13 →
    s.line.resetting = false →
    let saws := (s.sampleSaws before onBoard).outfeed.saws
    let faulted := (List.range 13).filter fun k =>
      decide ((s.saw k).state ≠ .faulted ∧ (saws[k]?).map (fun w => w.state) = some .faulted)
    let notices : List Frame := faulted.map fun k =>
      { kind := 0x48#8, tag := 0#8
        body := [0x05#8, byteOf k] ++ match onBoard with | some t => le2 t.toNat ++ [0x01#8] | none => [0xFF#8, 0xFF#8, 0x00#8] }
    s.sampleSaws before onBoard =
      State.refreshAttention
        { s with
          outfeed := { s.outfeed with saws := saws }
          linePort := if s.line.noticeMask.getLsbD 5 = true then s.linePort.offers 32 8 notices else s.linePort }) ∧
  (∀ before u : State, u.line.config.geometry → (u.tracker.ring.map fun x => x.tag).Nodup →
    let at' := fun p : Nat => u.tracker.serial - BitVec.ofNat 16 p
    let v := before.lugPart u .outfeed
    let sampled := fun onBoard : Option Tag => u.sampleSaws before.outfeed.applied onBoard
    v.outfeed.saws = (sampled none).outfeed.saws ∧
    ((∃ b ∈ u.tracker.ring, b.tag = at' (u.line.config.d - 1)) →
      v.outfeed.applied =
        (u.patterns.find? fun e => e.tag == at' (u.line.config.d - 1)).map fun e => { tag := e.tag, saws := e.saws }) ∧
    ((∀ b ∈ u.tracker.ring, b.tag ≠ at' (u.line.config.d - 1)) → v.outfeed.applied = none) ∧
    ((∀ b ∈ u.tracker.ring, b.tag ≠ at' u.line.config.d) → v = ((sampled none).marker).applyPattern) ∧
    (∀ b ∈ u.tracker.ring, b.tag = at' u.line.config.d →
      (b.state = .committed → v = (((sampled (some b.tag)).sawLineEvent b).marker).applyPattern) ∧
      (b.state ≠ .committed → v = ((sampled (some b.tag)).marker).applyPattern)) ∧
    ((∀ b ∈ u.tracker.ring, b.tag = at' (u.line.config.d + u.line.config.m) → b.state ≠ .cut) → u.marker = u) ∧
    (∀ b ∈ u.tracker.ring, b.tag = at' (u.line.config.d + u.line.config.m) → b.state = .cut →
      u.marker = u.markerEvent b)) ∧
  (∀ (s : State) (k : Nat),
    s.dropOutputs.getLsbD k = true ↔
      k < 13 ∧ k < s.line.config.sn ∧ ∃ a, s.outfeed.applied = some a ∧ a.saws.getLsbD k = true)

/-- R134, R135, R136, R150, R153: the saw-line event of a COMMITTED board: its sampled pattern, on a MISMATCH the fallback stamp and
bin 0, its entry gone, the bin put out, the state CUT, and what it adds to its run's counters or to the unattributed figures.
R5, R9: it keeps its other fields, and the other records of the ring stay.
R14, R138, R139: the marker event of a CUT board: its text sent or not by the ready input, its DISPATCH offered when
selected, its record gone. R181, R183: the bytes of DISPATCH, a sampled set that is absent being THE MODEL'S READING (log entry
35, DEDUCED). -/
def Obligations.SawLineAndMarkerFinishTheBoard : Prop :=
  (∀ (s : State) (b : Board) (d : FinalDecision), (s.tracker.ring.map fun x => x.tag).Nodup → b ∈ s.tracker.ring →
      b.state = .committed → b.decision = some d →
      let t := s.sawLineEvent b
      let same := ∀ k, k < s.line.config.sn → k < 13 → s.pins.feedback.getLsbD k = (chosenSaws d.what).getLsbD k
      (∃ x : Board,
        x = { b with state := .cut, sampled := x.sampled, stamp := x.stamp } ∧
          t.tracker = { s.tracker with ring := s.tracker.ring.map fun y => if y.tag = b.tag then x else y } ∧
          (∃ sampled, x.sampled = some sampled ∧
            (∀ k, k < 13 → (sampled.saws.getLsbD k = true ↔ k < s.line.config.sn ∧ s.pins.feedback.getLsbD k = true)) ∧
            (sampled.outcome = .normal ↔ same)) ∧
          (same → x.stamp = b.stamp) ∧
          (¬same →
            x.stamp = some (match b.bank with | some n => rowText (s.bank n) .fallbackStamp 0 | none => []))) ∧
      (∀ e ∈ t.patterns, e.tag ≠ b.tag) ∧
      (¬same → t.outfeed.binCode = 0 ∧ t.outputs = s.outputs ++ [.binStrobe 0]) ∧
      (same → ∀ n, d.bin = some n → t.outfeed.binCode = n ∧ t.outputs = s.outputs ++ [.binStrobe n]) ∧
      (same → d.bin = none → t.outfeed.binCode = s.outfeed.binCode ∧ t.outputs = s.outputs) ∧
      (b.run = none →
        t.tally.unattributed.cut = min 4294967295 (s.tally.unattributed.cut + 1) ∧ t.tally.runs = s.tally.runs ∧
          t.linePort = s.linePort) ∧
      (∀ id r, b.run = some id → (s.tally.runs.map fun q => q.id).Nodup → s.findRun id = some r →
        r.counters.length = 133 → (∀ i j g, d.what = .piece i j g → pieceFits i j g) → d.what ≠ .fallback .noRun →
        let source := match d.source with | .auto => 121 | .console => 122 | .host => 123 | .manual => 124
        let always := [(source, 1)] ++ if d.flags.reduced = true then [(125, 1)] else []
        let outcome :=
          match d.what with
          | .piece _ _ (.index _) => 108
          | .piece _ _ .ungraded => 109
          | .waste _ => 110
          | .pass => 111
          | .fallback c =>
            match c with
            | .late => 112 | .poison => 113 | .queueFull => 114 | .stopped => 115 | .sawOut => 116 | .tracking => 117
            | .noFit => 118 | .noRun => 0
        let graded := fun adds : Nat → Nat → Nat → List (Nat × Nat) =>
          match d.what with
          | .piece i j (.index g) => adds i j g
          | _ => []
        let counts := fun adds : List (Nat × Nat) =>
          s.raisedIn t r adds ∧
            (s.line.resetting = false → t.linePort = s.linePort.offers 32 8 (s.saturationNotices r adds))
        (¬same → counts ([(119, 1)] ++ always)) ∧
        (same →
          counts
            ([(outcome, 1)] ++ graded (fun i j g => [(12 * g + (j - i) - 1, 1)]) ++ always ++ [(126, d.value)] ++
              graded (fun i j _ => [(127, (j - i) * s.line.config.sp)]))))) ∧
  (∀ (s : State) (b : Board), b.state = .cut →
      let t := s.markerEvent b
      t.tracker.ring = (s.tracker.ring.filter fun x => x.tag ≠ b.tag) ∧
      ((b.stamp = none ∨ b.stamp = some [] ∨ s.pins.markerReady = false) → t.outputs = s.outputs) ∧
      (∀ text, b.stamp = some text → text ≠ [] → s.pins.markerReady = true →
        t.outputs = s.outputs ++ [.marker text]) ∧
      t.consolePort = s.consolePort ∧ t.tally = s.tally ∧
      (s.selection.getLsbD 1 = true → s.line.resetting = false → s.line.drain = none →
        t.linePort =
          s.linePort.offer 32 8
            { kind := 0x41#8, tag := 0#8
              body := b.dispatchFields
                (b.unmarked ||
                  (!s.pins.markerReady && (match b.stamp with | none => false | some text => decide (text ≠ [])))) }) ∧
      (s.selection.getLsbD 1 = false → s.line.drain = none → t.linePort = s.linePort))

/-! ### The ports -/

/-- R167, R113: a frame that passed its check: the receiver hunts again; on the console the silence timer restarts; a kind
of 0x80 or above is discarded; else it takes the empty buffer or is counted as an overrun. That FRAME_RECEIVED is a whole frame
and leaves the receiver HUNTING is THE MODEL'S READING (log entry 9, DEDUCED). -/
def Obligations.FrameReceivedIsBuffered : Prop :=
  ∀ (s : State) (p : Port) (kind tag : Byte) (body : List Byte), body.length ≤ 240 → s.line.resetting = false →
    exec (.frameReceived p kind tag body) s =
      .next
        (let q : PortState :=
          { s.port p with
            rx := { state := .hunting, held := [] }
            inbound :=
              if kind.toNat < 0x80 ∧ (s.port p).inbound = none then some { kind := kind, tag := tag, body := body }
              else (s.port p).inbound
            overrun :=
              if kind.toNat < 0x80 ∧ (s.port p).inbound ≠ none then min 65535 ((s.port p).overrun + 1)
              else (s.port p).overrun }
        match p with
        | .line => { s with linePort := q }
        | .console =>
          { s with consolePort := q, trimmer := { s.trimmer with timer := some s.line.config.ct } })

/-- R166, R179: the bytes of a frame, sent to a port whose receiver hunts, are received one by one as that frame. That
FRAME_RECEIVED stands for the whole frame is THE MODEL'S READING (log entry 9, DEDUCED). -/
def Obligations.PortBytesMakeTheFrame : Prop :=
  ∀ (s : State) (p : Port) (kind tag : Byte) (body : List Byte), body.length ≤ 240 →
    (s.port p).rx.state = .hunting → s.pending = [] →
    Sys2Proof.core.run (encodePortFrame kind tag body).length
        (s.withPending ((encodePortFrame kind tag body).map (Instr.portByteReceived p))) =
      exec (.frameReceived p kind tag body) s

/-- R168, R170: a frame whose kind is not in its port's request set is answered UNKNOWN_KIND, by the request's own command
on the wrong port as by UNKNOWN_KIND; a command with no such frame waiting, or no place for its reply, changes nothing
(log entries 1 and 25). -/
def Obligations.RequestsAreTakenByTheirPort : Prop :=
  ∀ (s : State) (p : Port),
    (∀ f, s.asks p f → inRequestSet p f.kind = false → exec (.unknownKind p) s = .next (s.answered p f .unknownKind [])) ∧
    (∀ i k f, requestOf i = some (p, k) → s.asks p f → f.kind = k → inRequestSet p k = false →
      exec i s = .next (s.answered p f .unknownKind [])) ∧
    (∀ i k, requestOf i = some (p, k) → (∀ f, s.asks p f → f.kind ≠ k) → exec i s = .next s) ∧
    ((∀ f, s.asks p f → inRequestSet p f.kind = true) → exec (.unknownKind p) s = .next s) ∧
    (∀ k : Byte, inRequestSet .line k = true ↔ 0x01 ≤ k.toNat ∧ k.toNat ≤ 0x1C) ∧
    (∀ k : Byte, inRequestSet .console k = true ↔
      (0x01 ≤ k.toNat ∧ k.toNat ≤ 0x04) ∨ (0x1D ≤ k.toNat ∧ k.toNat ≤ 0x20))

/-- R171: a frame offered to an outbound queue of n places, r of them reserved. That the first frame of the queue has begun to be
sent, and so is not displaced, is THE MODEL'S READING (log entry 8, DEDUCED). -/
def Obligations.OfferedFramesFollowTheTable : Prop :=
  ∀ (q : PortState) (n r : Nat) (f : Frame), q.outbound.length ≤ n →
    (f.informational = true → q.outbound.length < n - r → q.offer n r f = { q with outbound := q.outbound ++ [f] }) ∧
    (f.informational = true → n - r ≤ q.outbound.length →
      q.offer n r f = { q with lost := min 4294967295 (q.lost + 1) }) ∧
    (f.informational = false → q.outbound.length < n → q.offer n r f = { q with outbound := q.outbound ++ [f] }) ∧
    (f.informational = false → q.outbound.length = n →
      ((∀ g ∈ q.outbound.tail, g.informational = false) →
        q.offer n r f = { q with priorityLoss := min 65535 (q.priorityLoss + 1) }) ∧
      (∀ (first g : Frame) (before after : List Frame), q.outbound = first :: (before ++ g :: after) →
        g.informational = true → (∀ x ∈ after, x.informational = false) →
        q.offer n r f =
          { q with outbound := first :: (before ++ after) ++ [f], lost := min 4294967295 (q.lost + 1) }))

/-- R174: HELLO. -/
def Obligations.HelloCarriesThePart : Prop :=
  ∀ (s : State) (p : Port) (f : Frame), s.asks p f → f.kind = 0x01#8 →
    exec (.hello p) s =
      .next
        (if f.body = [] then
          s.answered p f .ok
            (le2 7260 ++ [0x01#8, (match p with | .line => 0x00#8 | .console => 0x01#8)] ++
              le2 s.tracker.serial.toNat ++
              [(match s.line.state with | .configuring => 0x00#8 | .running => 0x01#8 | .stopped => 0x02#8),
                byteOf ((if s.line.latch.lugSkip then 1 else 0) + (if s.line.latch.allHeadsLost then 2 else 0)),
                (if s.line.latch.lugSkip ∨ s.line.latch.allHeadsLost then 0x01#8 else 0x00#8),
                240#8, (match p with | .line => 32#8 | .console => 16#8),
                (match p with | .line => 8#8 | .console => 4#8)] ++
              le4 (s.port p).lost ++ le2 (s.port p).priorityLoss ++ le2 (s.port p).overrun)
        else s.answered p f .badFormat [])

/-- R175: STATUS: the common opening, then the page's contents as they stand; the marker-ready input is read. A page's
filler bytes are free values (log entry 13), so they are taken from the state that the taking leaves. That the command brings the
marker-ready level is THE MODEL'S READING (log entry 30, DEDUCED).
R175, R186, R189: what the five pages hold, byte by byte, `filler` standing for the free ones. THE MODEL'S READINGS (log entry 14,
DEDUCED): an IDLE log scaler shows 0xFF as its number of samples (R38 and R175 give that number in COLLECTING alone), an IDLE
engine 0xFF as its flag, and an absent load window 0xFF in its 11 bytes. THE MODEL'S CHOICE (log entry 36, DESIGN CHOICE): the
fixed tables (heads, engines, saws, ports, figures, banks) stand with no byte for their number. -/
def Obligations.StatusCarriesItsPage : Prop :=
  (∀ (s : State) (p : Port) (f : Frame) (m : Bool), s.asks p f → f.kind = 0x02#8 →
      (∀ page,
        f.body = [match page with
          | StatusPage.line => 0#8 | .heads => 1#8 | .work => 2#8 | .outfeed => 3#8 | .runs => 4#8] →
        exec (.status p m) s =
          .next
            { s.answered p f .ok
                (le2 s.tracker.serial.toNat ++
                  [(match s.line.state with | .configuring => 0x00#8 | .running => 0x01#8 | .stopped => 0x02#8),
                    byteOf ((if s.line.latch.lugSkip then 1 else 0) + (if s.line.latch.allHeadsLost then 2 else 0))] ++
                  pageBytes (s.takeFrame p) m page) with
              pins := { s.pins with markerReady := m } }) ∧
      ((∀ c : Byte, c.toNat ≤ 4 → f.body ≠ [c]) → exec (.status p m) s = .next (s.answered p f .badFormat []))) ∧
  ∀ (s : State) (m : Bool), ∃ filler : Nat → BitVec 16,
    let counts := fun q : PortState => le4 q.lost ++ le2 q.priorityLoss ++ le2 q.overrun
    let flag := fun b : Bool => if b then (0x01#8 : Byte) else 0x00#8
    pageBytes s m .line =
        configField s.line.config ++ [flag (s.line.latch.lugSkip || s.line.latch.allHeadsLost)] ++
          le2 s.line.noticeMask.toNat ++ [byteOf s.selection.toNat] ++ tagField (filler 0) s.line.drain ++
          le2 s.tracker.homeCount ++
          [flag s.tracker.synced, byteOf s.tracker.ring.length,
            match s.tracker.eye with | none => 0xFF#8 | some e => flag e.loaded] ++
          counts s.linePort ++ counts s.consolePort ∧
      pageBytes s m .heads =
        ((List.range 12).flatMap fun k =>
          [match (s.head (k + 1)).state with
            | .absent => 0x00#8 | .active => 0x01#8 | .pendingCal => 0x02#8 | .stale => 0x03#8 | .retired => 0x04#8] ++
            le2 (s.head (k + 1)).counter ++ [byteOf (s.head (k + 1)).misses, flag (s.head (k + 1)).latch] ++
            tagField (filler (k + 1)) (s.head (k + 1)).membership) ∧
      pageBytes s m .work =
        [byteOf s.grading.queue.length] ++ s.grading.queue.flatMap (fun t => le2 t.toNat) ++
          [byteOf s.grading.regrades.length] ++
          ((List.range 3).flatMap fun k =>
            match s.grading.engines.getD k .idle with
            | .idle => [0x00#8] ++ tagField (filler k) none ++ [0xFF#8]
            | .evaluating t _ reduced => [0x01#8] ++ tagField (filler k) (some t) ++ [flag reduced]
            | .regrading t _ _ withdrawn => [0x02#8] ++ tagField (filler k) (some t) ++ [flag withdrawn]) ++
          [byteOf s.patterns.length] ++
          (match s.trimmer.ownership with
            | .auto => [0x00#8, 0xFF#8]
            | .takePending => [0x01#8, 0xFF#8]
            | .manual => [0x02#8, 0xFF#8]
            | .releasePending .release => [0x03#8, 0x00#8]
            | .releasePending .reclaim => [0x03#8, 0x01#8]
            | .releasePending .consoleLost => [0x03#8, 0x02#8]) ++
          patternField s.trimmer.pattern ++
          [byteOf
            ((if s.trimmer.attention.calOverdue then 1 else 0) + (if s.trimmer.attention.sawFault then 2 else 0) +
              (if s.trimmer.attention.valueLoss then 4 else 0))] ++
          le4 s.trimmer.valueLoss ++ le2 s.line.config.vm ++
          (match s.logs.current with
            | none => [0x00#8, 0xFF#8]
            | some l => [0x01#8, byteOf l.samples.length]) ∧
      pageBytes s m .outfeed =
        ((List.range 13).flatMap fun k =>
          [(match (s.saw k).state with | .inService => 0x00#8 | .out => 0x01#8 | .faulted => 0x02#8),
            byteOf (s.saw k).mismatches]) ++
          (match s.outfeed.applied with
            | none => tagField (filler 0) none ++ le2 (filler 1).toNat
            | some a => tagField (filler 0) (some a.tag) ++ le2 a.saws.toNat) ++
          [byteOf s.outfeed.binCode] ++ le8 s.outfeed.binFull.toNat ++ [flag m] ∧
      pageBytes s m .runs =
        [byteOf s.tally.runs.length] ++
          ((List.range s.tally.runs.length).flatMap fun k =>
            match s.tally.runs[k]? with
            | none => []
            | some r =>
              le2 r.id ++ [bankField r.bank, runStateField r.state] ++ le2 r.startTag.toNat ++ tagField (filler k) r.endTag ++
                le4 (r.counter 128).value) ++
          le2 (match s.tally.logRun with
            | none => 0
            | some key => match s.tally.runs.find? fun r => r.key == key with | none => 0 | some r => r.id) ++
          le4 s.tally.unattributed.scanned ++ le4 s.tally.unattributed.cut ++ le4 s.tally.unattributed.discarded ++
          le4 s.tally.unattributed.logs ++ le4 s.tally.unattributed.litres ++ le4 s.tally.unattributed.debris ++
          ([BankName.a, .b].flatMap fun n =>
            [bankStateField (s.bank n).state, flag (s.tally.runs.any fun r => r.bank == n && r.state != .closed)]) ++
          match s.rules.window with
          | none => List.replicate 11 0xFF#8
          | some w =>
            [bankField w.bank, tableField w.table, byteOf w.firstRow, byteOf w.lastRow, byteOf w.firstCol, byteOf w.lastCol,
              orderField w.order, overflowField w.overflow, byteOf w.row, byteOf w.col, flag w.exhausted]

/-- R176, R184: BOARD_QUERY, its bytes those of R181 and R186. THE MODEL'S READINGS (DEDUCED): the absent value, flags and saw
set of a FALLBACK's advisory block (log entry 15) and the absent sampled set (log entry 35). -/
def Obligations.BoardQueryShowsTheRecord : Prop :=
  ∀ (s : State) (p : Port) (f : Frame), s.asks p f → f.kind = 0x03#8 →
    (∀ (lo hi first : Byte) (t : Tag), t.toNat = lo.toNat + 256 * hi.toNat →
      (f.body = [lo, hi, 0x00#8, first] ∨ f.body = [lo, hi, 0x01#8, first]) →
      ((∀ b ∈ s.tracker.ring, b.tag ≠ t) → exec (.boardQuery p) s = .next (s.answered p f .notFound [lo, hi])) ∧
      (∀ b ∈ s.tracker.ring, (s.tracker.ring.map fun x => x.tag).Nodup → b.tag = t →
        (f.body = [lo, hi, 0x00#8, first] →
          exec (.boardQuery p) s = .next (s.replied p f (recordReply s b)) ∧
            recordReply s b =
              [0x00#8, lo, hi, byteOf (s.tracker.serial - t).toNat, boardStateField b.state] ++
                le2 (b.run.getD 0) ++
                [(match b.bank with | none => 0xFF#8 | some .a => 0x00#8 | some .b => 0x01#8)] ++ le4 (b.number.getD 0) ++
                (match b.length with | none => [0xFF#8, 0xFF#8] | some n => le2 n) ++
                [byteOf ((if b.overlength then 1 else 0) + (if b.tracking then 2 else 0) + (if b.unmarked then 4 else 0))] ++
                marksField b.marks ++ [byteOf b.defects.length] ++ advisoryField b.advisory ++ overrideField b.override ++
                decisionField b.decision ++ stampField b.stamp ++ sampledField b.sampled) ∧
        (f.body = [lo, hi, 0x01#8, first] →
          exec (.boardQuery p) s =
            .next
              (s.answered p f .ok
                ([lo, hi, byteOf b.defects.length, byteOf ((b.defects.drop first.toNat).take 16).length] ++
                  ((b.defects.drop first.toNat).take 16).flatMap fun d =>
                    [match d.kind with
                      | .knot => 0x00#8 | .hole => 0x01#8 | .split => 0x02#8 | .wane => 0x03#8 | .stain => 0x04#8
                      | .decay => 0x05#8] ++ le2 d.start ++ le2 d.stop ++ le2 d.size ++
                      [byteOf d.severity, byteOf d.faces.toNat, byteOf d.source]))))) ∧
    ((f.body.length ≠ 4 ∨ 2 ≤ byteAt f.body 2) → exec (.boardQuery p) s = .next (s.answered p f .badFormat []))

/-! ### The line -/

/-- R157, R158, R26: LINE_CONFIG: accepted in CONFIGURING when every limit holds; then the configuration, the head table
and the mismatch counts are set, and the attention set follows; else the reply names the first parameter outside its own range
in the order of R157's table, or the parameter of the first joint limit that fails. R182: every body of 23 bytes is read, byte by
byte. -/
def Obligations.LineConfigSetsTheLine : Prop :=
  (∀ (body : List Byte) (c : LineParams),
    parseConfig body = some c ↔
      (c.hn < 256 ∧ c.zp < 65536 ∧ c.sn < 256 ∧ c.sp < 65536 ∧ c.so < 65536 ∧ c.d < 256 ∧ c.h < 256 ∧ c.m < 256 ∧
        c.aw < 256 ∧ c.hd < 256 ∧ c.k < 65536 ∧ c.ci < 65536 ∧ c.ol < 65536 ∧ c.ct < 65536 ∧ c.vm < 65536) ∧
        body = configField c) ∧
  (∀ body : List Byte, body.length = 23 → ∃ c, parseConfig body = some c) ∧
  (∀ (s : State) (f : Frame), s.asks .line f → f.kind = 0x06#8 →
    (f.body.length ≠ 23 → exec (.lineConfig .line) s = .next (s.answered .line f .badFormat [])) ∧
    (∀ c, parseConfig f.body = some c →
      (s.line.state ≠ .configuring → exec (.lineConfig .line) s = .next (s.answered .line f .badState [])) ∧
      (s.line.state = .configuring →
        (∀ n, badParameter c = some n →
          exec (.lineConfig .line) s = .next (s.answered .line f .outOfRange [byteOf n])) ∧
        (badParameter c = none →
          exec (.lineConfig .line) s =
            .next
              (State.refreshAttention
                { s.answered .line f .ok [] with
                  line := { s.line with config := c }
                  intake :=
                    { s.intake with
                      heads := (List.range 12).map fun k =>
                        { state := if k < c.hn then .stale else .absent, counter := 0, misses := 0, latch := false
                          membership := none } }
                  outfeed :=
                    { s.outfeed with saws := s.outfeed.saws.map fun w => { w with mismatches := 0 } } }))))) ∧
  (∀ c : LineParams,
    badParameter c =
      ([(1, decide (1 ≤ c.hn ∧ c.hn ≤ 12)), (2, decide (300 ≤ c.zp ∧ c.zp ≤ 1000)), (3, decide (2 ≤ c.sn ∧ c.sn ≤ 13)),
          (4, decide (300 ≤ c.sp ∧ c.sp ≤ 1000)), (5, decide (c.so ≤ 300)), (6, decide (6 ≤ c.d ∧ c.d ≤ 32)),
          (7, decide (1 ≤ c.h)), (8, decide (c.m ≤ 8)), (9, decide (1 ≤ c.aw ∧ c.aw ≤ 3)), (10, decide (c.hd ≤ 8)),
          (11, decide (c.k = 0 ∨ (24 ≤ c.k ∧ c.k ≤ 1000))), (12, decide (100 ≤ c.ci ∧ c.ci ≤ 20000)),
          (13, decide (10 ≤ c.ol ∧ c.ol ≤ 2000)), (14, decide (500 ≤ c.ct ∧ c.ct ≤ 10000)), (15, decide (c.vm ≤ 65535)),
          (2, decide (c.hn * c.zp ≤ 8000)), (5, decide (c.so + (c.sn - 1) * c.sp ≤ 8000)),
          (7, decide (c.h + c.aw + 2 ≤ c.d))].find? fun x : Nat × Bool => !x.2).map fun x => x.1) ∧
  ∀ c : LineParams,
    badParameter c = none ↔
      (1 ≤ c.hn ∧ c.hn ≤ 12) ∧ (300 ≤ c.zp ∧ c.zp ≤ 1000) ∧ (2 ≤ c.sn ∧ c.sn ≤ 13) ∧ (300 ≤ c.sp ∧ c.sp ≤ 1000) ∧
        c.so ≤ 300 ∧ (6 ≤ c.d ∧ c.d ≤ 32) ∧ 1 ≤ c.h ∧ c.m ≤ 8 ∧ (1 ≤ c.aw ∧ c.aw ≤ 3) ∧ c.hd ≤ 8 ∧
        (c.k = 0 ∨ (24 ≤ c.k ∧ c.k ≤ 1000)) ∧ (100 ≤ c.ci ∧ c.ci ≤ 20000) ∧ (10 ≤ c.ol ∧ c.ol ≤ 2000) ∧
        (500 ≤ c.ct ∧ c.ct ≤ 10000) ∧ c.vm ≤ 65535 ∧ c.hn * c.zp ≤ 8000 ∧ c.so + (c.sn - 1) * c.sp ≤ 8000 ∧
        c.h + c.aw + 2 ≤ c.d

/-- R159, R161, R160: LINE_START and LINE_RESUME. That the reply to LINE_START carries the line state it leads to is THE MODEL'S
READING (log entry 29, DEDUCED). -/
def Obligations.LineStartAndResume : Prop :=
  ∀ (s : State) (f : Frame), s.asks .line f →
    let lost := ∀ h, 1 ≤ h → h ≤ s.line.config.hn → (s.head h).state = .retired
    (f.kind = 0x07#8 → f.body ≠ [] → exec (.lineStart .line) s = .next (s.answered .line f .badFormat [])) ∧
    (f.kind = 0x07#8 → f.body = [] →
      (s.line.state ≠ .configuring ∨ s.line.config.hn < 1 ∨ s.line.config.sn < 2 →
        exec (.lineStart .line) s = .next (s.answered .line f .badState [])) ∧
      (s.line.state = .configuring → 1 ≤ s.line.config.hn → 2 ≤ s.line.config.sn →
        (¬lost →
          exec (.lineStart .line) s =
            .next { s.answered .line f .ok [0x01#8] with line := { s.line with state := .running } }) ∧
        (lost → s.line.latch = { lugSkip := false, allHeadsLost := false } →
          exec (.lineStart .line) s =
            .next
              (let u : State :=
                { s.answered .line f .ok [0x02#8] with
                  line := { s.line with state := .stopped, latch := { lugSkip := false, allHeadsLost := true } } }
              (u.offer .line 0x49#8 ([0x01#8] ++ le2 s.tracker.serial.toNat ++ [0x02#8])).offer .console 0x49#8
                ([0x01#8] ++ le2 s.tracker.serial.toNat ++ [0x02#8]))))) ∧
    (f.kind = 0x08#8 → f.body ≠ [] → exec (.lineResume .line) s = .next (s.answered .line f .badFormat [])) ∧
    (f.kind = 0x08#8 → f.body = [] →
      ((s.line.state ≠ .stopped ∨ lost) → exec (.lineResume .line) s = .next (s.answered .line f .badState [])) ∧
      (s.line.state = .stopped → ¬lost →
        exec (.lineResume .line) s =
          .next
            { s.answered .line f .ok [] with
              line := { s.line with state := .running, latch := { lugSkip := false, allHeadsLost := false } } }))

/-- R162, R16, R36, R76, R106, R126, R140, R151, R165: LINE_RESET: everything in flight is emptied, what the host has set
up is kept, every record of the ring and the log in progress are counted, CLOSING runs become CLOSED, and the reply stands in
the line port's queue. Its reports follow the reply, and the notices of the counters it saturates, one for each, in the order
of the records and the log (log entry 19): OWNER, to both ports, if the ownership changed, RUN_CLOSED for each CLOSING run in
table order (log entry 20), and DRAIN_DONE ABORTED for an outstanding drain. That it does all this in CONFIGURING too is THE
MODEL'S CHOICE (log entry 34).
R151: what LINE_RESET counts for one record of the ring: one DISCARDED in its run or in the unattributed figures, and
for a SCANNING record that would have been kept one scanned as well. -/
def Obligations.LineResetEmptiesTheLine : Prop :=
  (∀ (s : State) (f : Frame), s.asks .line f → f.kind = 0x09#8 →
      (f.body ≠ [] → exec (.lineReset .line) s = .next (s.answered .line f .badFormat [])) ∧
      (f.body = [] →
        ∃ t : State, exec (.lineReset .line) s = .next t ∧
          t.tracker = { serial := s.tracker.serial, homeCount := 0, synced := false, eye := none, ring := [] } ∧
          t.intake =
            { heads := s.intake.heads.map fun h => { h with membership := none }, calibrations := [] } ∧
          t.logs = { s.logs with current := none } ∧ t.rules = s.rules ∧
          t.grading = { engines := [.idle, .idle, .idle], queue := [], regrades := [] } ∧ t.patterns = [] ∧
          t.trimmer = { s.trimmer with ownership := .auto, pattern := .pass, timer := none } ∧
          t.outfeed = { s.outfeed with applied := none } ∧
          t.line =
            { s.line with
              state := .configuring, latch := { lugSkip := false, allHeadsLost := false }, drain := none } ∧
          ((s.tally.runs.map fun r => r.id).Nodup →
            (t.tally.runs.map fun r => (r.key, r.id, r.bank, r.startTag, r.endTag, r.state)) =
              s.tally.runs.map fun r =>
                (r.key, r.id, r.bank, r.startTag, r.endTag, if r.state = .closing then .closed else r.state)) ∧
          (let boards := (s.tracker.ring.foldl State.countReset s).tally
          let counted : Tally :=
            match s.logs.current with
            | none => boards
            | some l =>
              match s.bookedRun l.booking with
              | none =>
                { boards with
                  unattributed := { boards.unattributed with debris := min 4294967295 (boards.unattributed.debris + 1) } }
              | some id =>
                { boards with
                  runs := boards.runs.map fun r =>
                    if r.id = id then { r with counters := r.counters.set 131 ((r.counter 131).raised 4294967295 1) }
                    else r }
          t.tally.unattributed = counted.unattributed ∧
          ((s.tally.runs.map fun r => r.id).Nodup →
            t.tally.runs = (counted.runs.map fun r => if r.state = .closing then { r with state := .closed } else r) ∧
            (s.line.resetting = false →
              let owner : List Frame :=
                if s.trimmer.ownership = .auto then []
                else
                  [{ kind := 0x4A#8, tag := 0#8
                     body :=
                      [0x00#8, 0x05#8] ++
                        le2 (s.tracker.serial + 1#16 -
                          (BitVec.ofNat 16 s.line.config.d - BitVec.ofNat 16 s.line.config.h)).toNat }]
              let closed : List Frame := (counted.runs.filter fun r => r.state == .closing).map fun r =>
                { kind := 0x4C#8, tag := 0#8
                  body :=
                    le2 r.id ++ [match r.bank with | .a => 0x00#8 | .b => 0x01#8] ++ le2 r.startTag.toNat ++
                      le2 (r.endTag.getD 0#16).toNat ++ le4 (r.counter 128).value ++ [0x01#8] }
              let drained : List Frame :=
                match s.line.drain with
                | none => []
                | some d => [{ kind := 0x4D#8, tag := 0#8, body := [0x01#8] ++ le2 d.toNat }]
              t.consolePort = s.consolePort.offers 16 4 owner ∧
                ∃ saturated : List Frame,
                  t.linePort =
                      (s.answered .line f .ok []).linePort.offers 32 8 (saturated ++ owner ++ closed ++ drained) ∧
                    (∀ g ∈ saturated, ∃ r ∈ s.tally.runs, ∃ k ∈ [120, 128, 131],
                      g = { kind := 0x48#8, tag := 0#8, body := [0x06#8] ++ le2 r.id ++ [byteOf k, 0xFF#8] }) ∧
                    (s.line.noticeMask.getLsbD 6 = false ∨
                        (∀ r ∈ s.tally.runs, ∀ k ∈ [120, 128, 131],
                          (r.counter k).value + s.tracker.ring.length + 1 < 4294967295) →
                      saturated = []) ∧
                    ((∀ r ∈ s.tally.runs, r.counters.length = 133) →
                      saturated =
                        s.noticesOfOnes
                          ((s.tracker.ring.flatMap fun b =>
                              match b.run with
                              | none => []
                              | some id =>
                                match b.state, b.window with
                                | .cut, _ => []
                                | .scanning, none => []
                                | .scanning, some w =>
                                  if ∃ v ∈ w, v.present = true ∨ v.outcome = .poison then [(id, 128), (id, 120)] else []
                                | _, _ => [(id, 120)]) ++
                            match s.logs.current with
                            | none => []
                            | some l =>
                              match s.bookedRun l.booking with
                              | none => []
                              | some id => [(id, 131)]))))) ∧
          t.tally.logRun = s.tally.logRun ∧ t.selection = s.selection ∧ t.pins = s.pins ∧ t.outputs = s.outputs ∧
          t.pending = s.pending ∧
          { kind := 0x89#8, tag := f.tag, body := [0x00#8] } ∈ t.linePort.outbound ∧ t.linePort.inbound = none)) ∧
  (∀ (s : State) (b : Board),
      (b.state = .cut → s.countReset b = s) ∧
      (b.run = none →
        ((b.state = .queued ∨ b.state = .evaluating ∨ b.state = .decided ∨ b.state = .committed) →
          s.countReset b =
            { s with
              tally :=
                { s.tally with
                  unattributed :=
                    { s.tally.unattributed with discarded := min 4294967295 (s.tally.unattributed.discarded + 1) } } }) ∧
        (∀ w, b.state = .scanning → b.window = some w →
          ((∀ v ∈ w, v.present = false ∧ v.outcome ≠ .poison) → s.countReset b = s) ∧
          ((∃ v ∈ w, v.present = true ∨ v.outcome = .poison) →
            s.countReset b =
              { s with
                tally :=
                  { s.tally with
                    unattributed :=
                      { s.tally.unattributed with
                        scanned := min 4294967295 (s.tally.unattributed.scanned + 1)
                        discarded := min 4294967295 (s.tally.unattributed.discarded + 1) } } }))) ∧
      (∀ id r, b.run = some id → s.findRun id = some r → (s.tally.runs.map fun q => q.id).Nodup →
        r.counters.length = 133 →
        ((b.state = .queued ∨ b.state = .evaluating ∨ b.state = .decided ∨ b.state = .committed) →
          s.raisedIn (s.countReset b) r [(120, 1)]) ∧
        (∀ w, b.state = .scanning → b.window = some w →
          ((∀ v ∈ w, v.present = false ∧ v.outcome ≠ .poison) → s.countReset b = s) ∧
          ((∃ v ∈ w, v.present = true ∨ v.outcome = .poison) →
            s.raisedIn (s.countReset b) r [(128, 1), (120, 1)]))) ∧
      (∀ id r, b.run = some id → s.findRun id = some r → 120 < r.counters.length →
        (b.state = .queued ∨ b.state = .evaluating ∨ b.state = .decided ∨ b.state = .committed) →
        ∃ q, (s.countReset b).findRun id = some q ∧
          (q.counter 120).value = min 4294967295 ((r.counter 120).value + 1) ∧
          ∀ k, k ≠ 120 → q.counter k = r.counter k))

/-- R165: DRAIN: BAD_STATE in CONFIGURING, BUSY with a drain outstanding; else its serial is the lug serial, and it ends
at once, with its report after the reply, when the ring holds no covered record. R13, R14: a record that leaves the ring,
dropped at assembly close or retired at its marker event after its DISPATCH, lets the drain be tested: with no covered record
left it ends, with DRAIN_DONE COMPLETE. R183: the bytes of DISPATCH, a sampled set that is absent being THE MODEL'S READING (log
entry 35, DEDUCED). -/
def Obligations.DrainIsStartedAndTested : Prop :=
  (∀ (s : State) (f : Frame), s.asks .line f → f.kind = 0x1C#8 →
    (f.body ≠ [] → exec (.drain .line) s = .next (s.answered .line f .badFormat [])) ∧
    (f.body = [] →
      (s.line.state = .configuring → exec (.drain .line) s = .next (s.answered .line f .badState [])) ∧
      (s.line.state ≠ .configuring →
        (s.line.drain ≠ none → exec (.drain .line) s = .next (s.answered .line f .busy [])) ∧
        (s.line.drain = none →
          (s.tracker.ring ≠ [] →
            exec (.drain .line) s =
              .next
                { s.answered .line f .ok (le2 s.tracker.serial.toNat) with
                  line := { s.line with drain := some s.tracker.serial } }) ∧
          (s.tracker.ring = [] →
            exec (.drain .line) s =
              .next
                ((s.answered .line f .ok (le2 s.tracker.serial.toNat)).offer .line 0x4D#8
                  ([0x00#8] ++ le2 s.tracker.serial.toNat))))))) ∧
  ∀ (s : State) (b : Board), s.line.resetting = false →
    let rest := s.tracker.ring.filter fun x => x.tag ≠ b.tag
    let covered := fun d : Tag => ∃ x ∈ rest, (s.tracker.serial - d).toNat ≤ (s.tracker.serial - x.tag).toNat
    let tested := fun (q : PortState) (t : State) =>
      t.tracker.ring = rest ∧
      (s.line.drain = none → t.line = s.line ∧ t.linePort = q) ∧
      (∀ d, s.line.drain = some d →
        (covered d → t.line = s.line ∧ t.linePort = q) ∧
        (¬covered d →
          t.line = { s.line with drain := none } ∧
            t.linePort = q.offer 32 8 { kind := 0x4D#8, tag := 0#8, body := [0x00#8] ++ le2 d.toNat }))
    (∀ w, (s.tracker.ring.map fun x => x.tag).Nodup → b ∈ s.tracker.ring → b.state = .scanning → b.window = some w →
      (∀ v ∈ w, v.present = false ∧ v.outcome ≠ .poison) → tested s.linePort (s.closeBoard b.tag).1) ∧
    (b.state = .cut →
      tested
        (if s.selection.getLsbD 1 = true then
          s.linePort.offer 32 8
            { kind := 0x41#8, tag := 0#8
              body := b.dispatchFields
                (b.unmarked ||
                  (!s.pins.markerReady && (match b.stamp with | none => false | some text => decide (text ≠ [])))) }
        else s.linePort)
        (s.markerEvent b))

/-- R33, R34, R35, R32: HEAD_RETIRE, HEAD_RESTORE and HEAD_CLEAR. A retirement takes the head out of every record being
assembled (stated where none of them is completed by it); one that leaves no head in service raises ALL_HEADS_LOST outside
CONFIGURING (stated with no record being assembled). -/
def Obligations.HeadRequestsActOnTheTable : Prop :=
  (∀ (s : State) (f : Frame), s.asks .line f → f.body.length ≠ 1 →
    (f.kind = 0x17#8 → exec (.headRetire .line) s = .next (s.answered .line f .badFormat [])) ∧
    (f.kind = 0x18#8 → exec (.headRestore .line) s = .next (s.answered .line f .badFormat [])) ∧
    (f.kind = 0x19#8 → exec (.headClear .line) s = .next (s.answered .line f .badFormat []))) ∧
  ∀ (s : State) (f : Frame) (c : Byte) (e : Head), s.asks .line f → f.body = [c] →
    let named := 1 ≤ c.toNat ∧ c.toNat ≤ s.line.config.hn ∧ (s.head c.toNat).state ≠ .absent
    (f.kind = 0x17#8 → ¬named → exec (.headRetire .line) s = .next (s.answered .line f .outOfRange [])) ∧
    (f.kind = 0x18#8 → ¬named → exec (.headRestore .line) s = .next (s.answered .line f .outOfRange [])) ∧
    (f.kind = 0x19#8 → ¬named → exec (.headClear .line) s = .next (s.answered .line f .outOfRange [])) ∧
    (named → s.intake.heads[c.toNat - 1]? = some e →
      (f.kind = 0x17#8 → e.state = .retired → exec (.headRetire .line) s = .next (s.answered .line f .ok [])) ∧
      (f.kind = 0x17#8 → e.state ≠ .retired →
        let retired : State :=
          { State.refreshAttention
              { s.answered .line f .ok [] with
                tracker :=
                  { s.tracker with
                    ring := s.tracker.ring.map fun x =>
                      match x.state, x.window with
                      | .scanning, some y =>
                        { x with
                          window :=
                            some (y.set (c.toNat - 1)
                              { expected := false, outcome := .none, present := false, endPos := none, stale := false
                                overflow := false, truncated := false })
                          defects := x.defects.filter fun d => d.source ≠ c.toNat }
                      | _, _ => x }
                intake :=
                  { heads := s.intake.heads.set (c.toNat - 1)
                      { state := .retired, counter := 0, misses := 0, latch := false, membership := none }
                    calibrations := s.intake.calibrations.map fun x =>
                      { x with members := x.members.filter fun m => m.head ≠ c.toNat } } } with
            draws := s.draws + 2 }
        let others := ∃ k, 1 ≤ k ∧ k ≤ s.line.config.hn ∧ k ≠ c.toNat ∧ (s.head k).state ≠ .retired
        ((∀ x ∈ s.tracker.ring, x.state = .scanning → ∀ y, x.window = some y →
            ∃ k, k ≠ c.toNat ∧ (viewOf y k).expected = true ∧
              ((viewOf y k).outcome = .none ∨ (viewOf y k).outcome = .resendSent)) →
          (others ∨ s.line.state = .configuring) → exec (.headRetire .line) s = .next retired) ∧
        ((∀ x ∈ s.tracker.ring, x.state ≠ .scanning) → ¬others → s.line.state ≠ .configuring →
          s.line.resetting = false →
          exec (.headRetire .line) s =
            .next
              (let u : State :=
                { retired with
                  line := { s.line with state := .stopped, latch := { s.line.latch with allHeadsLost := true } } }
              let fault :=
                [0x01#8] ++ le2 s.tracker.serial.toNat ++ [if s.line.latch.lugSkip then 0x03#8 else 0x02#8]
              (u.offer .line 0x49#8 fault).offer .console 0x49#8 fault))) ∧
      (f.kind = 0x18#8 → e.state ≠ .retired → exec (.headRestore .line) s = .next (s.answered .line f .badState [])) ∧
      (f.kind = 0x18#8 → e.state = .retired →
        exec (.headRestore .line) s =
          .next
            (State.refreshAttention
              { s.answered .line f .ok [] with
                intake :=
                  { s.intake with
                    heads := s.intake.heads.set (c.toNat - 1)
                      { state := .stale, counter := 0, misses := 0, latch := false, membership := none } } })) ∧
      (f.kind = 0x19#8 →
        exec (.headClear .line) s =
          .next
            { s.answered .line f .ok [] with
              intake :=
                { s.intake with heads := s.intake.heads.set (c.toNat - 1) { e with latch := false } } }))

/-- R128, R137, R164, R173: SAW_STATE, BIN_STATE, NOTICE_MASK and REPORT_SELECT, each with the value before and after. -/
def Obligations.SettingsAreReplacedWhole : Prop :=
  ∀ (s : State) (f : Frame), s.asks .line f →
    (∀ (k v : Byte) (w : Saw), f.kind = 0x15#8 → f.body = [k, v] →
      (1 < v.toNat → exec (.sawState .line) s = .next (s.answered .line f .badFormat [])) ∧
      (v.toNat ≤ 1 → 12 < k.toNat → exec (.sawState .line) s = .next (s.answered .line f .outOfRange [])) ∧
      (v.toNat ≤ 1 → k.toNat ≤ 12 → s.outfeed.saws[k.toNat]? = some w →
        exec (.sawState .line) s =
          .next
            (State.refreshAttention
              { s.answered .line f .ok
                  [(match w.state with | .inService => 0#8 | .out => 1#8 | .faulted => 2#8), v] with
                outfeed :=
                  { s.outfeed with
                    saws := s.outfeed.saws.set k.toNat
                      { state := if v = 0#8 then .inService else .out, mismatches := 0 } } }))) ∧
    (f.kind = 0x15#8 → f.body.length ≠ 2 → exec (.sawState .line) s = .next (s.answered .line f .badFormat [])) ∧
    (∀ (k v : Byte), f.kind = 0x16#8 → f.body = [k, v] →
      (1 < v.toNat → exec (.binState .line) s = .next (s.answered .line f .badFormat [])) ∧
      (v.toNat ≤ 1 → (k.toNat = 0 ∨ 63 < k.toNat) →
        exec (.binState .line) s = .next (s.answered .line f .outOfRange [])) ∧
      (v.toNat ≤ 1 → 1 ≤ k.toNat → k.toNat ≤ 63 →
        ∃ full : BitVec 64, (∀ n, full.getLsbD n = if n = k.toNat then v == 1#8 else s.outfeed.binFull.getLsbD n) ∧
          exec (.binState .line) s =
            .next
              { s.answered .line f .ok [if s.outfeed.binFull.getLsbD k.toNat then 1#8 else 0#8, v] with
                outfeed := { s.outfeed with binFull := full } })) ∧
    (f.kind = 0x16#8 → f.body.length ≠ 2 → exec (.binState .line) s = .next (s.answered .line f .badFormat [])) ∧
    (f.kind = 0x1A#8 →
      (f.body.length ≠ 2 → exec (.noticeMask .line) s = .next (s.answered .line f .badFormat [])) ∧
      (∀ lo hi : Byte, f.body = [lo, hi] →
        (2 ≤ hi.toNat → exec (.noticeMask .line) s = .next (s.answered .line f .badFormat [])) ∧
        (hi.toNat < 2 →
          exec (.noticeMask .line) s =
            .next
              { s.answered .line f .ok (le2 s.line.noticeMask.toNat ++ [lo, hi]) with
                line := { s.line with noticeMask := BitVec.ofNat 9 (lo.toNat + 256 * hi.toNat) } }))) ∧
    (f.kind = 0x1B#8 →
      (f.body.length ≠ 1 → exec (.reportSelect .line) s = .next (s.answered .line f .badFormat [])) ∧
      (∀ c : Byte, f.body = [c] →
        (8 ≤ c.toNat → exec (.reportSelect .line) s = .next (s.answered .line f .badFormat [])) ∧
        (c.toNat < 8 →
          exec (.reportSelect .line) s =
            .next
              { s.answered .line f .ok [s.selection.setWidth 8, c] with selection := BitVec.ofNat 3 c.toNat })))

/-! ### The rule store -/

/-- R58, R57: BANK_OPEN. R59: TABLE_WINDOW. R50, R51: the rows, columns and cell ranges of the nine tables. -/
def Obligations.BankOpenAndTableWindow : Prop :=
  (∀ t : Table,
    (tableRows t, tableCols t) =
      match t with
      | .limits => ((0, 7), (0, 29))
      | .price => ((0, 8), (1, 12))
      | .bins => ((0, 8), (1, 12))
      | .altBins => ((0, 0), (0, 63))
      | .names => ((0, 8), (0, 3))
      | .labels => ((1, 12), (0, 2))
      | .stamp => ((0, 15), (0, 1))
      | .fallbackStamp => ((0, 0), (0, 11))
      | .params => ((0, 0), (0, 3))) ∧
  (∀ (t : Table) (col : Nat), (tableCols t).1 ≤ col → col ≤ (tableCols t).2 →
    cellRange t col =
      match t with
      | .limits =>
        (0, if col % 5 = 0 then 400 else if col % 5 = 1 then 15 else if col % 5 = 2 then 8000 else if col % 5 = 3 then 15 else 99)
      | .price => (0, 65535)
      | .bins => (0, 63)
      | .altBins => (0, 63)
      | .stamp => (0, 255)
      | .params => if col = 0 then (1, 8) else if col = 3 then (1, 12) else (0, 8)
      | .names => (0x20, 0x7E)
      | .labels => (0x20, 0x7E)
      | .fallbackStamp => (0x20, 0x7E)) ∧
  ∀ (s : State) (f : Frame), s.asks .line f →
    (f.kind = 0x0A#8 →
      (f.body ≠ [0#8] → f.body ≠ [1#8] → exec (.bankOpen .line) s = .next (s.answered .line f .badFormat [])) ∧
      (∀ n, f.body = [bankField n] →
        ((∃ r ∈ s.tally.runs, r.bank = n ∧ r.state ≠ .closed) →
          exec (.bankOpen .line) s = .next (s.answered .line f .bankInUse [])) ∧
        ((∀ r ∈ s.tally.runs, r.bank = n → r.state = .closed) →
          exec (.bankOpen .line) s =
            .next
              (let opened : Bank :=
                { state := .loading, cells := if (s.bank n).state = .empty then [] else (s.bank n).cells }
              { s.answered .line f .ok [] with
                rules :=
                  match n with
                  | .a => { s.rules with bankA := opened, window := none }
                  | .b => { s.rules with bankB := opened, window := none } })))) ∧
    (f.kind = 0x0B#8 →
      ((∀ (n : BankName) (table : Table) (r0 r1 c0 c1 : Byte) (o : WindowOrder) (v : WindowOverflow),
          f.body ≠ [bankField n, tableField table, r0, r1, c0, c1, orderField o, overflowField v]) →
        exec (.tableWindow .line) s = .next (s.answered .line f .badFormat [])) ∧
      (∀ (n : BankName) (table : Table) (r0 r1 c0 c1 : Byte) (o : WindowOrder) (v : WindowOverflow),
        f.body = [bankField n, tableField table, r0, r1, c0, c1, orderField o, overflowField v] →
        let fits :=
          r0.toNat ≤ r1.toNat ∧ c0.toNat ≤ c1.toNat ∧ (tableRows table).1 ≤ r0.toNat ∧ r1.toNat ≤ (tableRows table).2 ∧
            (tableCols table).1 ≤ c0.toNat ∧ c1.toNat ≤ (tableCols table).2
        ((s.bank n).state ≠ .loading → exec (.tableWindow .line) s = .next (s.answered .line f .badState [])) ∧
        ((s.bank n).state = .loading → ¬fits →
          exec (.tableWindow .line) s = .next (s.answered .line f .outOfRange [])) ∧
        ((s.bank n).state = .loading → fits →
          exec (.tableWindow .line) s =
            .next
              { s.answered .line f .ok [] with
                rules :=
                  { s.rules with
                    window :=
                      some
                        { bank := n, table := table, firstRow := r0.toNat, lastRow := r1.toNat, firstCol := c0.toNat
                          lastCol := c1.toNat, order := o, overflow := v, row := r0.toNat, col := c0.toNat
                          exhausted := false } } })))

/-- R60: the cursor's move after a write, and the sweep: from the first cell of a window, with rows times columns writes
the cursor stands at each cell of the rectangle once. A value, clamped to its cell's range (R61), is written at the cursor and
nowhere else; an exhausted window ignores its values. -/
def Obligations.CursorSweepsTheWindow : Prop :=
  ∀ w : LoadWindow, w.inTable →
    (w.advance.bank = w.bank ∧ w.advance.table = w.table ∧ w.advance.firstRow = w.firstRow ∧
      w.advance.lastRow = w.lastRow ∧ w.advance.firstCol = w.firstCol ∧ w.advance.lastCol = w.lastCol ∧
      w.advance.order = w.order ∧ w.advance.overflow = w.overflow) ∧
    (w.order = .rows → w.col < w.lastCol → w.advance = { w with col := w.col + 1 }) ∧
    (w.order = .rows → w.col = w.lastCol → w.row < w.lastRow →
      w.advance = { w with row := w.row + 1, col := w.firstCol }) ∧
    (w.order = .columns → w.row < w.lastRow → w.advance = { w with row := w.row + 1 }) ∧
    (w.order = .columns → w.row = w.lastRow → w.col < w.lastCol →
      w.advance = { w with row := w.firstRow, col := w.col + 1 }) ∧
    (w.row = w.lastRow → w.col = w.lastCol → w.overflow = .ignore → w.advance = { w with exhausted := true }) ∧
    (w.row = w.lastRow → w.col = w.lastCol → w.overflow = .wrap →
      w.advance = { w with row := w.firstRow, col := w.firstCol }) ∧
    (∀ (l : Load) (v : Nat), l.window = w → w.exhausted = true → l.put v = { l with ignored := l.ignored + 1 }) ∧
    w.covers w.advance.row w.advance.col ∧
    (∀ (l : Load) (v : Nat), l.window = w → w.exhausted = false →
      let range := cellRange w.table w.col
      let x := if v < range.1 then range.1 else if range.2 < v then range.2 else v
      (l.put v).window = w.advance ∧ (l.put v).written = l.written + 1 ∧ (l.put v).ignored = l.ignored ∧
        (l.put v).clamped = l.clamped + (if x = v then 0 else 1) ∧
        readCell (l.put v).cells (cellKey w.table w.row w.col) = BitVec.ofNat 16 x ∧
        ∀ key, key ≠ cellKey w.table w.row w.col → readCell (l.put v).cells key = readCell l.cells key) ∧
    (w.row = w.firstRow → w.col = w.firstCol →
      let at' := fun k : Nat => LoadWindow.advance^[k] w
      let n := (w.lastRow + 1 - w.firstRow) * (w.lastCol + 1 - w.firstCol)
      ((List.range n).map fun k => ((at' k).row, (at' k).col)).Nodup ∧
        (∀ row col, w.covers row col ↔ ∃ k < n, (at' k).row = row ∧ (at' k).col = col) ∧
        (at' (n - 1)).row = w.lastRow ∧ (at' (n - 1)).col = w.lastCol)

/-- R61: TABLE_DATA: its refusals; then the values are taken one after another in the order of the request (`Load.put`, one
value at the cursor, stated by CursorSweepsTheWindow): every value is written, clamped to its cell's range, or ignored, no cell
outside the window's rectangle changes, and the counts and the cursor go into the reply. R187: the values that are read, byte
by byte. -/
def Obligations.TableDataWritesThroughTheWindow : Prop :=
  (∀ (body : List Byte) (values : List Nat),
    parseData body = some values ↔
      1 ≤ values.length ∧ values.length ≤ 100 ∧ (∀ v ∈ values, v < 65536) ∧
        body = [byteOf values.length] ++ values.flatMap le2) ∧
  ∀ (s : State) (f : Frame), s.asks .line f → f.kind = 0x0C#8 →
    (parseData f.body = none → exec (.tableData .line) s = .next (s.answered .line f .badFormat [])) ∧
    (∀ values, parseData f.body = some values →
      (1 ≤ values.length ∧ values.length ≤ 100) ∧
      (s.rules.window = none → exec (.tableData .line) s = .next (s.answered .line f .badState [])) ∧
      (∀ w, s.rules.window = some w → w.inTable →
        ∃ (u : LoadWindow) (cells : List Cell) (written clamped ignored : Nat),
          exec (.tableData .line) s =
            .next
              { s.answered .line f .ok
                  [byteOf written, byteOf clamped, byteOf ignored, byteOf u.row, byteOf u.col,
                    if u.exhausted then 1#8 else 0#8] with
                rules :=
                  match w.bank with
                  | .a => { s.rules with bankA := { s.rules.bankA with cells := cells }, window := some u }
                  | .b => { s.rules with bankB := { s.rules.bankB with cells := cells }, window := some u } } ∧
            { window := u, cells := cells, written := written, clamped := clamped, ignored := ignored } =
              values.foldl Load.put
                { window := w, cells := (s.bank w.bank).cells, written := 0, clamped := 0, ignored := 0 } ∧
            written + ignored = values.length ∧ clamped ≤ written ∧
            u = { w with row := u.row, col := u.col, exhausted := u.exhausted } ∧ w.covers u.row u.col ∧
            (w.exhausted = true → written = 0 ∧ cells = (s.bank w.bank).cells ∧ u = w) ∧
            (∀ key, (∀ row col, w.covers row col → key ≠ cellKey w.table row col) →
              readCell cells key = readCell (s.bank w.bank).cells key) ∧
            (∀ row col, w.covers row col →
              readCell cells (cellKey w.table row col) = readCell (s.bank w.bank).cells (cellKey w.table row col) ∨
                ∃ v ∈ values,
                  readCell cells (cellKey w.table row col) =
                    BitVec.ofNat 16
                      (if v < (cellRange w.table col).1 then (cellRange w.table col).1
                      else if (cellRange w.table col).2 < v then (cellRange w.table col).2 else v)) ∧
            (w.exhausted = false →
              ∃ v ∈ values.head?, values.length = 1 →
                readCell cells (cellKey w.table w.row w.col) =
                  BitVec.ofNat 16
                    (if v < (cellRange w.table w.col).1 then (cellRange w.table w.col).1
                    else if (cellRange w.table w.col).2 < v then (cellRange w.table w.col).2 else v))))

/-- R62, R63, R54: BANK_CLOSE: its refusals; on a LOADING bank the window ends, and the bank becomes LOADED exactly when every
step of the check passes; else the first failing cell is named and the bank stays LOADING. -/
def Obligations.BankCloseChecksTheBank : Prop :=
  ∀ (s : State) (f : Frame), s.asks .line f → f.kind = 0x0D#8 →
    (f.body ≠ [0#8] → f.body ≠ [1#8] → exec (.bankClose .line) s = .next (s.answered .line f .badFormat [])) ∧
    (∀ n, f.body = [bankField n] →
      let bk := s.bank n
      let paramOk := fun col : Nat =>
        match col with
        | 0 => 1 ≤ cellValue bk .params 0 0 ∧ cellValue bk .params 0 0 ≤ 8
        | 1 => cellValue bk .params 0 1 ≤ 8
        | 2 => cellValue bk .params 0 2 ≤ 8
        | _ => 1 ≤ cellValue bk .params 0 3 ∧ cellValue bk .params 0 3 ≤ 12
      let params := ∀ col, col < 4 → paramOk col
      let named := fun g : Nat => ∃ col, col < 4 ∧ (readCell bk.cells (cellKey .names g col)).setWidth 8 ≠ 0x20#8
      let names := ∀ g, g < cellValue bk .params 0 0 → named g
      let code := fun row : Nat => cellValue bk .stamp row 0
      let operand := fun row : Nat => cellValue bk .stamp row 1
      let codeOk := fun row : Nat => code row ≤ 8 ∧ ∀ k, k < row → code k = 0 → code row = 0
      let operandOk := fun row : Nat =>
        ((code row = 1 ∨ code row = 6 ∨ code row = 8) → 0x20 ≤ operand row ∧ operand row ≤ 0x7E) ∧
          ((code row = 4 ∨ code row = 5) → 1 ≤ operand row ∧ operand row ≤ 5) ∧
          (code row = 7 → 1 ≤ operand row ∧ operand row ≤ 12)
      let stamp := ∀ row, row < 16 → codeOk row ∧ operandOk row
      (bk.state ≠ .loading → exec (.bankClose .line) s = .next (s.answered .line f .badState [])) ∧
      (bk.state = .loading → params → names → stamp →
        exec (.bankClose .line) s =
          .next
            { s.answered .line f .ok [] with
              rules :=
                match n with
                | .a => { s.rules with bankA := { s.rules.bankA with state := .loaded }, window := none }
                | .b => { s.rules with bankB := { s.rules.bankB with state := .loaded }, window := none } }) ∧
      (bk.state = .loading → ¬(params ∧ names ∧ stamp) →
        ∃ cell : BadCell,
          exec (.bankClose .line) s =
            .next
              { s.answered .line f .invalid
                  [tableField cell.table, byteOf cell.row, byteOf cell.col, 0x01#8] with
                rules := { s.rules with window := none } } ∧
            (¬params →
              cell.table = .params ∧ cell.row = 0 ∧ cell.col < 4 ∧ ¬paramOk cell.col ∧ ∀ c, c < cell.col → paramOk c) ∧
            (params → ¬names →
              cell.table = .names ∧ cell.col = 0 ∧ cell.row < cellValue bk .params 0 0 ∧ ¬named cell.row ∧
                ∀ g, g < cell.row → named g) ∧
            (params → names →
              cell.table = .stamp ∧ cell.row < 16 ∧ (∀ row, row < cell.row → codeOk row ∧ operandOk row) ∧
                ((cell.col = 0 ∧ ¬codeOk cell.row) ∨ (cell.col = 1 ∧ codeOk cell.row ∧ ¬operandOk cell.row)))))

/-- R64, R154, R49: the reading requests change nothing but their reply: TABLE_READ, TALLY_READ and LOG_QUERY.
R155, R185: the three sections of TALLY_READ byte by byte, with board litres and recovery computed from the counters. That the
two bytes of an absent end tag are free is THE MODEL'S CHOICE (log entry 13, DESIGN CHOICE). -/
def Obligations.ReadingRequestsCarryTheRecord : Prop :=
  (∀ (s : State) (f : Frame), s.asks .line f →
    (f.kind = 0x0E#8 →
      ((∀ (n : BankName) (table : Table) (row col count : Byte),
          f.body = [bankField n, tableField table, row, col, count] → count.toNat = 0 ∨ 100 < count.toNat) →
        exec (.tableRead .line) s = .next (s.answered .line f .badFormat [])) ∧
      (∀ (n : BankName) (table : Table) (row col count : Byte),
        f.body = [bankField n, tableField table, row, col, count] → 1 ≤ count.toNat → count.toNat ≤ 100 →
        let rows := tableRows table
        let cols := tableCols table
        let inside := rows.1 ≤ row.toNat ∧ row.toNat ≤ rows.2 ∧ cols.1 ≤ col.toNat ∧ col.toNat ≤ cols.2
        (¬inside → exec (.tableRead .line) s = .next (s.answered .line f .outOfRange [])) ∧
        (inside →
          ∃ values : List Nat,
            exec (.tableRead .line) s =
              .next
                (s.answered .line f .ok
                  (byteOf values.length :: values.flatMap le2 ++ [bankStateField (s.bank n).state])) ∧
            (let width := cols.2 + 1 - cols.1
            let start := (row.toNat - rows.1) * width + (col.toNat - cols.1)
            values.length = min count.toNat ((rows.2 + 1 - rows.1) * width - start) ∧
              ∀ k, k < values.length →
                values.getD k 0 =
                  cellValue (s.bank n) table (rows.1 + (start + k) / width) (cols.1 + (start + k) % width))))) ∧
    (f.kind = 0x12#8 →
      (f.body.length ≠ 3 ∨ 2 < byteAt f.body 2 → exec (.tallyRead .line) s = .next (s.answered .line f .badFormat [])) ∧
      (∀ (lo hi : Byte) (sec : TallySection),
        f.body = [lo, hi, match sec with | .cells => 0#8 | .outcomes => 1#8 | .logs => 2#8] →
        (s.findRun (lo.toNat + 256 * hi.toNat) = none →
          exec (.tallyRead .line) s = .next (s.answered .line f .notFound [])) ∧
        (∀ r e, s.findRun (lo.toNat + 256 * hi.toNat) = some r → r.endTag = some e →
          exec (.tallyRead .line) s =
            .next
              (s.answered .line f .ok
                ([lo, hi, bankField r.bank, runStateField r.state] ++ le2 r.startTag.toNat ++
                  le2 e.toNat ++ [1#8] ++ le4 (r.counter 128).value ++ [flagByte (r.counter 128).saturated] ++
                  tallySection r sec))) ∧
        (∀ r, s.findRun (lo.toNat + 256 * hi.toNat) = some r → r.endTag = none →
          ∃ filler : BitVec 16, exec (.tallyRead .line) s =
            .next
              (s.answered .line f .ok
                ([lo, hi, bankField r.bank, runStateField r.state] ++ le2 r.startTag.toNat ++
                  le2 filler.toNat ++ [0#8] ++ le4 (r.counter 128).value ++ [flagByte (r.counter 128).saturated] ++
                  tallySection r sec))))) ∧
    (f.kind = 0x13#8 →
      let tail : List Byte :=
        le4 s.logs.nextSequence.toNat ++
          match s.logs.current with
          | none => [0x00#8]
          | some l =>
            [0x01#8] ++ le2 (match l.booking with | some k => k.id | none => 0) ++
              [byteOf l.samples.length, byteOf ((if l.suspect then 1 else 0) + (if l.overlength then 2 else 0))]
      (f.body ≠ [1#8] → (∀ b0 b1 b2 b3 : Byte, f.body ≠ [0#8, b0, b1, b2, b3]) →
        exec (.logQuery .line) s = .next (s.answered .line f .badFormat [])) ∧
      (f.body = [1#8] →
        exec (.logQuery .line) s =
          .next
            (s.answered .line f .ok
              (byteOf s.logs.memory.length :: s.logs.memory.flatMap LogRecord.fields ++ tail))) ∧
      (∀ b0 b1 b2 b3 : Byte, f.body = [0#8, b0, b1, b2, b3] →
        ((∀ r ∈ s.logs.memory, r.sequence ≠ b3 ++ b2 ++ b1 ++ b0) →
          exec (.logQuery .line) s = .next (s.answered .line f .notFound [])) ∧
        (∀ r ∈ s.logs.memory, (s.logs.memory.map fun x => x.sequence).Nodup → r.sequence = b3 ++ b2 ++ b1 ++ b0 →
          exec (.logQuery .line) s =
            .next (s.answered .line f .ok (r.fields ++ tail)))))) ∧
  ∀ r : Run,
    let cells := tallySection r .cells
    let outcomes := tallySection r .outcomes
    let flag := fun k : Nat => if (r.counter k).saturated = true then 1 else 0
    (cells.length = 216 ∧
      ∀ g n, g ≤ 8 → 1 ≤ n → n ≤ 12 → (cells.drop (2 * (12 * g + n - 1))).take 2 = le2 (r.counter (12 * g + n - 1)).value) ∧
    (outcomes.length = 83 ∧
      (∀ k, k < 20 → (outcomes.drop (4 * k)).take 4 = le4 (r.counter (108 + k)).value) ∧
      ∀ k, k < 24 →
        (byteAt outcomes (80 + k / 8) / 2 ^ (k % 8) % 2 = 1 ↔ k < 20 ∧ (r.counter (108 + k)).saturated = true)) ∧
    (let board := (r.counter 127).value * r.thickness * r.width / 1000000
    let litres := (r.counter 130).value
    tallySection r .logs =
      le2 r.thickness ++ le2 r.width ++ le4 (r.counter 129).value ++ le4 litres ++ le4 (r.counter 131).value ++
        le4 (r.counter 132).value ++ le4 (r.counter 127).value ++
        [byteOf (flag 129 + 2 * flag 130 + 4 * flag 131 + 8 * flag 132 + 16 * flag 127)] ++ le4 board ++
        le2 (if litres = 0 then 0 else min 9999 (board * 1000 / litres)) ++ [if litres = 0 then 0x01#8 else 0x00#8])

/-! ### Runs -/

/-- R187, R186: the bodies of RUN_START and RUN_END that are read, byte by byte.
R143, R148: RUN_START, with its checks in their order.
R145, R148, R147: RUN_END and RUN_FREE, with their checks in their order.
R146: the closing test of a lug event: each CLOSING run with no record before the saw line becomes CLOSED, with its RUN_CLOSED
report. That runs closing together report in table order is THE MODEL'S READING (log entry 20, DEDUCED); the key of a run record
is the model's own (log entry 21, DESIGN CHOICE). -/
def Obligations.RunRequestsKeepTheTable : Prop :=
  (∀ (body : List Byte) (x : StartForm),
    parseStart body = some x ↔
      x.id < 65536 ∧ x.thickness < 65536 ∧ x.width < 65536 ∧
        body =
          le2 x.id ++ [match x.bank with | .a => 0x00#8 | .b => 0x01#8] ++ le2 x.thickness ++ le2 x.width ++
            match x.start with
            | some t => [0x00#8] ++ le2 t.toNat
            | none => [0x01#8]) ∧
  (∀ (body : List Byte) (x : EndForm),
    parseEnd body = some x ↔
      x.id < 65536 ∧
        body =
          le2 x.id ++
            match x.stop with
            | some t => [0x00#8] ++ le2 t.toNat
            | none => [0x01#8]) ∧
  (∀ (s : State) (f : Frame), s.asks .line f → f.kind = 0x0F#8 →
      (parseStart f.body = none → exec (.runStart .line) s = .next (s.answered .line f .badFormat [])) ∧
      (∀ x : StartForm, parseStart f.body = some x →
        let start := match x.start with | none => s.tracker.serial + 1#16 | some t => t
        let far := (start - s.tracker.serial).toNat
        let inRange := x.id ≠ 0 ∧ 10 ≤ x.thickness ∧ x.thickness ≤ 400 ∧ 10 ≤ x.width ∧ x.width ≤ 400
        let known := ∃ r ∈ s.tally.runs, r.id = x.id
        let pendingNow := ∃ r ∈ s.tally.runs, r.state = .pending
        let allowed := 1 ≤ far ∧ far ≤ 30000 ∧
          ∀ r e, s.tally.runs.find? (fun q => q.state == .isOpen) = some r → r.endTag = some e →
            (e - s.tracker.serial).toNat < far
        (¬inRange → exec (.runStart .line) s = .next (s.answered .line f .outOfRange [])) ∧
        (inRange → known → exec (.runStart .line) s = .next (s.answered .line f .duplicate [])) ∧
        (inRange → ¬known → 4 ≤ s.tally.runs.length →
          exec (.runStart .line) s = .next (s.answered .line f .runTableFull [])) ∧
        (inRange → ¬known → s.tally.runs.length < 4 → (pendingNow ∨ (s.bank x.bank).state ≠ .loaded) →
          exec (.runStart .line) s = .next (s.answered .line f .badState [])) ∧
        (inRange → ¬known → s.tally.runs.length < 4 → ¬pendingNow → (s.bank x.bank).state = .loaded → ¬allowed →
          exec (.runStart .line) s = .next (s.answered .line f .outOfRange [])) ∧
        (inRange → ¬known → s.tally.runs.length < 4 → ¬pendingNow → (s.bank x.bank).state = .loaded → allowed →
          exec (.runStart .line) s =
            .next
              { s.answered .line f .ok (le2 start.toNat) with
                tally :=
                  { s.tally with
                    runs :=
                      s.tally.runs ++
                        [{ key := s.tally.nextKey, id := x.id, bank := x.bank, thickness := x.thickness, width := x.width
                           state := .pending, startTag := start, endTag := none
                           counters := List.replicate 133 { value := 0, saturated := false } }]
                    logRun := some s.tally.nextKey
                    nextKey := s.tally.nextKey + 1 } }))) ∧
  (∀ (s : State) (f : Frame), s.asks .line f →
      (f.kind = 0x10#8 →
        (parseEnd f.body = none → exec (.runEnd .line) s = .next (s.answered .line f .badFormat [])) ∧
        (∀ x : EndForm, parseEnd f.body = some x →
          let stop := match x.stop with | none => s.tracker.serial | some t => t
          let far := (stop - s.tracker.serial).toNat
          let allowed := far ≤ 30000 ∧
            ∀ p, s.tally.runs.find? (fun q => q.state == .pending) = some p → far < (p.startTag - s.tracker.serial).toNat
          (s.findRun x.id = none → exec (.runEnd .line) s = .next (s.answered .line f .notFound [])) ∧
          (∀ r, s.findRun x.id = some r →
            (r.state ≠ .isOpen ∨ r.endTag ≠ none → exec (.runEnd .line) s = .next (s.answered .line f .badState [])) ∧
            (r.state = .isOpen → r.endTag = none → ¬allowed →
              exec (.runEnd .line) s = .next (s.answered .line f .outOfRange [])) ∧
            (r.state = .isOpen → r.endTag = none → allowed →
              exec (.runEnd .line) s =
                .next
                  { s.answered .line f .ok (le2 stop.toNat) with
                    tally :=
                      { s.tally with
                        runs :=
                          s.tally.runs.map fun q =>
                            if q.id = x.id then
                              { q with endTag := some stop, state := if far = 0 then .closing else q.state }
                            else q
                        logRun := if s.tally.logRun = some r.key then none else s.tally.logRun } })))) ∧
      (f.kind = 0x11#8 →
        (f.body.length ≠ 2 → exec (.runFree .line) s = .next (s.answered .line f .badFormat [])) ∧
        (∀ lo hi : Byte, f.body = [lo, hi] →
          (s.findRun (lo.toNat + 256 * hi.toNat) = none →
            exec (.runFree .line) s = .next (s.answered .line f .notFound [])) ∧
          (∀ r, s.findRun (lo.toNat + 256 * hi.toNat) = some r →
            (r.state ≠ .closed → exec (.runFree .line) s = .next (s.answered .line f .badState [])) ∧
            (r.state = .closed →
              exec (.runFree .line) s =
                .next
                  { s.answered .line f .ok [] with
                    tally :=
                      { s.tally with
                        runs := s.tally.runs.filter fun q => q.id ≠ lo.toNat + 256 * hi.toNat } }))))) ∧
  (∀ before u : State, (u.tally.runs.map fun r => r.id).Nodup → u.line.resetting = false →
      let closes := fun r : Run =>
        r.state == .closing && u.tracker.ring.all fun b => b.run != some r.id || b.state == .cut
      before.lugPart u .closing =
        { u with
          tally :=
            { u.tally with runs := u.tally.runs.map fun r => if closes r then { r with state := .closed } else r }
          linePort :=
            (u.tally.runs.filter closes).foldl
              (fun q r =>
                q.offer 32 8
                  { kind := 0x4C#8, tag := 0#8
                    body :=
                      le2 r.id ++ [match r.bank with | .a => 0x00#8 | .b => 0x01#8] ++ le2 r.startTag.toNat ++
                        le2 (r.endTag.getD 0#16).toNat ++ le4 (r.counter 128).value ++ [0x00#8] })
              u.linePort })

/-! ### The trimmer -/

/-- R109, R110, R112: TAKE_TRIMMER, RELEASE_TRIMMER and RECLAIM_TRIMMER by the ownership when taken, each with the OWNER
report to both ports. -/
def Obligations.OwnershipRequestsMoveTheTrimmer : Prop :=
  ∀ (s : State) (f : Frame),
    let first := le2 (s.tracker.serial + 1#16 - (BitVec.ofNat 16 s.line.config.d - BitVec.ofNat 16 s.line.config.h)).toNat
    let report := fun (u : State) (owner cause : Byte) =>
      (u.offer .line 0x4A#8 ([owner, cause] ++ first)).offer .console 0x4A#8 ([owner, cause] ++ first)
    (s.asks .console f → f.kind = 0x1D#8 →
      (f.body ≠ [] → exec (.takeTrimmer .console) s = .next (s.answered .console f .badFormat [])) ∧
      (f.body = [] →
        (s.line.state = .configuring → exec (.takeTrimmer .console) s = .next (s.answered .console f .badState [])) ∧
        (s.line.state ≠ .configuring →
          (s.trimmer.ownership = .auto →
            exec (.takeTrimmer .console) s =
              .next
                (report
                  { s.answered .console f .ok [] with trimmer := { s.trimmer with ownership := .takePending } }
                  0x01#8 0x00#8)) ∧
          (s.trimmer.ownership = .takePending ∨ s.trimmer.ownership = .manual →
            exec (.takeTrimmer .console) s = .next (s.answered .console f .ok [])) ∧
          (∀ c, s.trimmer.ownership = .releasePending c →
            exec (.takeTrimmer .console) s =
              .next
                (report { s.answered .console f .ok [] with trimmer := { s.trimmer with ownership := .manual } }
                  0x02#8 0x00#8))))) ∧
    (∀ (p : Port) (i : Instr) (k : Byte) (cause : ReleaseCause),
      ((p = .console ∧ i = .releaseTrimmer .console ∧ k = 0x1E#8 ∧ cause = .release) ∨
        (p = .line ∧ i = .reclaimTrimmer .line ∧ k = 0x14#8 ∧ cause = .reclaim)) →
      s.asks p f → f.kind = k →
      (f.body ≠ [] → exec i s = .next (s.answered p f .badFormat [])) ∧
      (f.body = [] →
        ((s.trimmer.ownership = .auto ∨ ∃ c, s.trimmer.ownership = .releasePending c) →
          exec i s = .next (s.answered p f .ok [])) ∧
        (s.trimmer.ownership = .takePending →
          exec i s =
            .next
              (report
                { s.answered p f .ok [] with trimmer := { s.trimmer with ownership := .auto, pattern := .pass } }
                0x00#8 (if cause = .release then 0x01#8 else 0x02#8))) ∧
        (s.trimmer.ownership = .manual →
          exec i s =
            .next
              (report
                { s.answered p f .ok [] with trimmer := { s.trimmer with ownership := .releasePending cause } }
                0x03#8 (if cause = .release then 0x01#8 else 0x02#8)))))

/-- R114, R113, R112: the silence timer's expiry, by the ownership then in force. That an expiry of a stopped timer changes
nothing is THE MODEL'S CHOICE (log entry 1, DESIGN CHOICE). -/
def Obligations.SilenceExpiryReleasesTheTrimmer : Prop :=
  ∀ s : State, s.line.resetting = false →
    let first := le2 (s.tracker.serial + 1#16 - (BitVec.ofNat 16 s.line.config.d - BitVec.ofNat 16 s.line.config.h)).toNat
    let report := fun (u : State) (owner : Byte) =>
      (u.offer .line 0x4A#8 ([owner, 0x04#8] ++ first)).offer .console 0x4A#8 ([owner, 0x04#8] ++ first)
    (s.trimmer.timer = none → exec .silenceTimerExpiry s = .next s) ∧
    (s.trimmer.timer ≠ none →
      ((s.trimmer.ownership = .auto ∨ ∃ c, s.trimmer.ownership = .releasePending c) →
        exec .silenceTimerExpiry s = .next { s with trimmer := { s.trimmer with timer := none } }) ∧
      (s.trimmer.ownership = .takePending →
        exec .silenceTimerExpiry s =
          .next
            (report { s with trimmer := { s.trimmer with timer := none, ownership := .auto, pattern := .pass } }
              0x00#8)) ∧
      (s.trimmer.ownership = .manual →
        exec .silenceTimerExpiry s =
          .next
            (report { s with trimmer := { s.trimmer with timer := none, ownership := .releasePending .consoleLost } }
              0x03#8)))

/-- R115: MANUAL_PATTERN, with its checks in their order. R187, R186: the bodies that are read, byte by byte. -/
def Obligations.ManualPatternIsSet : Prop :=
  (∀ (body : List Byte) (x : ManualPattern),
    parsePattern body = some x ↔
      match x with
      | .piece i j .ungraded => i < 256 ∧ j < 256 ∧ body = [0x00#8, byteOf i, byteOf j, 0x09#8]
      | .piece i j (.index g) => i < 256 ∧ j < 256 ∧ g ≤ 8 ∧ body = [0x00#8, byteOf i, byteOf j, byteOf g]
      | .waste => body = [0x01#8]
      | .pass => body = [0x02#8]) ∧
  ∀ (s : State) (f : Frame), s.asks .console f → f.kind = 0x1F#8 →
    (parsePattern f.body = none → exec (.manualPattern .console) s = .next (s.answered .console f .badFormat [])) ∧
    (∀ x, parsePattern f.body = some x →
      (s.line.state = .configuring → exec (.manualPattern .console) s = .next (s.answered .console f .badState [])) ∧
      (s.line.state ≠ .configuring →
        ((s.trimmer.ownership = .auto ∨ ∃ c, s.trimmer.ownership = .releasePending c) →
          exec (.manualPattern .console) s = .next (s.answered .console f .notOwner [])) ∧
        ((s.trimmer.ownership = .takePending ∨ s.trimmer.ownership = .manual) →
          let fits := ∀ i j g, x = .piece i j g →
            i < j ∧ j < s.line.config.sn ∧ (s.saw i).state = .inService ∧ (s.saw j).state = .inService ∧
              (∀ n r, g = .index n → n ≠ 8 → s.tally.runs.find? (fun q => q.state == .isOpen) = some r →
                n < gradeCount (s.bank r.bank))
          (¬fits → exec (.manualPattern .console) s = .next (s.answered .console f .outOfRange [])) ∧
          (fits →
            exec (.manualPattern .console) s =
              .next
                { s.answered .console f .ok
                    (match x with
                      | .piece i j g => [0#8, byteOf i, byteOf j, gradeField g]
                      | .waste => [1#8]
                      | .pass => [2#8]) with
                  trimmer := { s.trimmer with pattern := x } }))))

/-- R125, R123: ATTENTION_CLEAR zeroes the value-loss sum and takes VALUE_LOSS out of the set, with an ATTENTION report
when it was in. On the line port its kind is answered UNKNOWN_KIND. -/
def Obligations.AttentionClearZeroesTheSum : Prop :=
  ∀ (s : State) (f : Frame), f.kind = 0x20#8 →
    (s.asks .console f →
      (f.body ≠ [] → exec (.attentionClear .console) s = .next (s.answered .console f .badFormat [])) ∧
      (f.body = [] → s.trimmer.attention.valueLoss = false →
        exec (.attentionClear .console) s =
          .next { s.answered .console f .ok [] with trimmer := { s.trimmer with valueLoss := 0 } }) ∧
      (f.body = [] → s.trimmer.attention.valueLoss = true →
        exec (.attentionClear .console) s =
          .next
            (State.offer
              { s.answered .console f .ok [] with
                trimmer :=
                  { s.trimmer with
                    valueLoss := 0, attention := { s.trimmer.attention with valueLoss := false } } }
              .console 0x4B#8
              ([byteOf
                  ((if s.trimmer.attention.calOverdue then 1 else 0) + (if s.trimmer.attention.sawFault then 2 else 0))] ++
                [0#8, 0#8, 0#8, 0#8] ++ le2 s.line.config.vm)))) ∧
    (s.asks .line f → exec (.attentionClear .line) s = .next (s.answered .line f .unknownKind []))

/-- R117 to R122: OVERRIDE: its refusals in their order, each with the tag; a kind that asks for no regrade placed in the
record in place of the earlier one, whose regrade is withdrawn; a SET_TRIM with its entry offered, on which the arbiter acts
(`arbitrate`, stated by EvaluationCompleteWritesTheAdvisory); a CANCEL. R182: the bodies that are read, byte by byte. That the tag
in the BAD_FORMAT reply to a body too short to hold one is free is THE MODEL'S CHOICE (log entry 23, DESIGN CHOICE). -/
def Obligations.OverrideIsPlacedOrRefused : Prop :=
  (∀ (body : List Byte) (form : OverrideForm),
    parseOverride body = some form ↔
      ∃ lo hi : Byte,
        (tagAt body 0).toNat = lo.toNat + 256 * hi.toNat ∧
          match form with
          | .place (.setGrade g) => g ≤ 9 ∧ body = [lo, hi, 0x00#8, byteOf g]
          | .place (.setTrim i j) => i < 256 ∧ j < 256 ∧ body = [lo, hi, 0x01#8, byteOf i, byteOf j]
          | .place (.setBoth i j g) =>
            i < 256 ∧ j < 256 ∧ g ≤ 9 ∧ body = [lo, hi, 0x02#8, byteOf i, byteOf j, byteOf g]
          | .place .waste => body = [lo, hi, 0x03#8]
          | .place .pass => body = [lo, hi, 0x04#8]
          | .cancel => body = [lo, hi, 0x05#8]) ∧
  (∀ (s : State) (p : Port) (f : Frame), s.asks p f → f.kind = 0x04#8 → parseOverride f.body = none →
    ∃ t : Tag, exec (.override p) s = .next (s.answered p f .badFormat (le2 t.toNat)) ∧
      (2 ≤ f.body.length → t = tagAt f.body 0)) ∧
  ∀ (s : State) (p : Port) (f : Frame) (form : OverrideForm), s.asks p f → f.kind = 0x04#8 →
    parseOverride f.body = some form →
    let t := tagAt f.body 0
    (s.line.state = .configuring → exec (.override p) s = .next (s.answered p f .badState (le2 t.toNat))) ∧
    (s.line.state ≠ .configuring →
      ((∀ b ∈ s.tracker.ring, b.tag ≠ t) → exec (.override p) s = .next (s.answered p f .notFound (le2 t.toNat))) ∧
      (∀ b ∈ s.tracker.ring, (s.tracker.ring.map fun x => x.tag).Nodup → b.tag = t →
        (b.state = .scanning → exec (.override p) s = .next (s.answered p f .notReady (le2 t.toNat))) ∧
        (∀ d, (b.state = .committed ∨ b.state = .cut) → b.decision = some d →
          exec (.override p) s =
            .next
              (s.answered p f .tooLate
                (le2 t.toNat ++
                  [(match d.what with
                      | .piece _ _ _ => 0x00#8 | .waste _ => 0x01#8 | .pass => 0x02#8 | .fallback _ => 0x03#8),
                    sourceField d.source]))) ∧
        ((b.state = .queued ∨ b.state = .evaluating ∨ b.state = .decided) →
          let pairOk := fun i j : Nat => i < j ∧ j < s.line.config.sn ∧ s.line.config.so + j * s.line.config.sp ≤ b.length.getD 0
          let fits :=
            match form with
            | .place (.setGrade g) => g ≤ 8
            | .place (.setTrim i j) => pairOk i j
            | .place (.setBoth i j g) => pairOk i j ∧ g ≤ 8
            | _ => True
          let cleared : Grading :=
            { s.grading with
              regrades := s.grading.regrades.filter fun e => e.tag ≠ t
              engines := s.grading.engines.map fun e =>
                match e with
                | .regrading u i j x => .regrading u i j (x || u == t)
                | .evaluating u sn r => .evaluating u sn r
                | .idle => .idle }
          let fields := fun status : Byte =>
            le2 t.toNat ++
              [boardStateField b.state,
                (match b.override with | none => 0xFF#8 | some o => overrideKindField o.kind), status,
                if b.tracking then 1#8 else 0#8]
          let place := fun (u : State) (o : Option Override) =>
            { u with
              tracker :=
                { s.tracker with
                  ring := s.tracker.ring.map fun x => if x.tag = t then { x with override := o } else x } }
          (¬fits → exec (.override p) s = .next (s.answered p f .outOfRange (le2 t.toNat))) ∧
          (fits →
            (form = .cancel →
              exec (.override p) s =
                .next (place { s.answered p f .ok (fields 0#8) with grading := cleared } none)) ∧
            (∀ k, form = .place k → (∀ i j, k ≠ .setTrim i j) →
              exec (.override p) s =
                .next
                  (place { s.answered p f .ok (fields 0#8) with grading := cleared }
                    (some { kind := k, fromPort := p, status := .none, result := none, unused := false }))) ∧
            (∀ i j, form = .place (.setTrim i j) →
              (4 ≤ cleared.regrades.length ∨ b.bank = none →
                exec (.override p) s =
                  .next
                    (place { s.answered p f .ok (fields 2#8) with grading := cleared }
                      (some { kind := .setTrim i j, fromPort := p, status := .noRegrade, result := none
                              unused := false }))) ∧
              (cleared.regrades.length < 4 → b.bank ≠ none →
                exec (.override p) s =
                  .next
                    (place
                      { s.answered p f .ok (fields 1#8) with
                        grading :=
                          { cleared with regrades := cleared.regrades ++ [{ tag := t, i := i, j := j }] } }
                      (some { kind := .setTrim i j, fromPort := p, status := .pending, result := none
                              unused := false })).arbitrate))))))

/-! ### Rules of the whole machine -/

/-- R169, R168, R171: a request that is taken is answered; with any result but OK and INVALID its reply is all that changes, and
otherwise its reply stands in the port's queue behind what is left of the frames that stood there (all of them but for
informational ones that a report displaced, and but for PART_RESET), and before whatever reports follow. -/
def Obligations.RefusedRequestsChangeNothing : Prop :=
  ∀ (i : Instr) (p : Port) (k : Byte) (f : Frame) (s : State), requestOf i = some (p, k) → s.asks p f → f.kind = k →
    ∃ t : State, exec i s = .next t ∧
      ∃ (r : Result) (rest : List Byte) (front reports : List Frame),
        (t.port p).outbound =
            front ++ { kind := f.kind + 0x80#8, tag := f.tag, body := resultField r :: rest } :: reports ∧
          front.Sublist (s.port p).outbound ∧
          (k ≠ 0x05#8 →
            (front.filter fun g => !g.informational) = (s.port p).outbound.filter fun g => !g.informational) ∧
          (∀ g ∈ reports, g.tag = 0#8 ∧ 0x40 ≤ g.kind.toNat ∧ g.kind.toNat ≤ 0x4D) ∧
          (r ≠ .ok → r ≠ .invalid → t = s.answered p f r rest)

/-- R17, R37, R180: a well-formed frame of the zone link, written out with its two checks, is read back as its command; and
the frames the part sends are laid out so too, with sender 0, their kind, serial and body, and both checks right. That the frame
check covers bytes 0 to 4 and the body is THE MODEL'S READING (log entry 12, DEDUCED). -/
def Obligations.LinkFramesDecodeTheirEncoding : Prop :=
  (∀ (i : Instr) (bytes : List Byte), i.wellFormed = true → encodeLink i = some bytes → decodeLinkFrame bytes = i) ∧
  (∀ (kind : LinkKind) (serial : Tag) (body : List Byte), body.length ≤ 255 →
    let bytes := sentFrame kind serial body
    bytes.length = 9 + body.length ∧ bytes.getD 0 0xFF#8 = 0x00#8 ∧
      bytes.getD 1 0#8 = (match kind with | .lugMark => 0x01#8 | .calibrate => 0x02#8 | .resend => 0x03#8) ∧
      tagAt bytes 2 = serial ∧ byteAt bytes 4 = body.length ∧ linkBody bytes = body ∧ headerOk bytes = true ∧
      frameCheckOk bytes = true)

/-- The cells of both banks keep their canonical form (INVENTORY.md, Memory and ordering). -/
def Obligations.BanksStayCanonical : Prop := ∀ s t : State, s.memoryWf → step s = .next t → t.memoryWf

/-- R156: the line is STOPPED exactly while the latch holds a fault, and every step keeps it so. -/
def Obligations.StoppedExactlyWhileLatched : Prop := ∀ s t : State, s.stopAgrees → step s = .next t → t.stopAgrees

/-- R171: no step puts more frames into an outbound queue than it has places. -/
def Obligations.OutboundQueuesNeverOverflow : Prop := ∀ s t : State, s.queuesFit → step s = .next t → t.queuesFit

/-- R158, R162, R76, R108: in CONFIGURING nothing is in flight, every engine is IDLE and ownership is AUTO, and every step keeps
it so. -/
def Obligations.ConfiguringLineIsEmpty : Prop := ∀ s t : State, s.configuringEmpty → step s = .next t → t.configuringEmpty

/-- R123: CAL_OVERDUE and SAW_FAULT follow the head and saw tables through every step. Brought up to date, a set that changes
sends an ATTENTION report with the whole set, the value-loss sum and VM (R188); one that stays as it was sends none. -/
def Obligations.AttentionFollowsTheTables : Prop :=
  (∀ s t : State, s.attentionFollows → step s = .next t → t.attentionFollows) ∧
  ∀ s : State,
    let now : Attention :=
      { calOverdue := decide (∃ h ∈ s.intake.heads, h.state = .stale)
        sawFault := decide (∃ w ∈ s.outfeed.saws, w.state = .faulted), valueLoss := s.trimmer.attention.valueLoss }
    s.refreshAttention =
      if now = s.trimmer.attention then s
      else
        State.offer { s with trimmer := { s.trimmer with attention := now } } .console 0x4B#8
          ([byteOf ((if now.calOverdue then 1 else 0) + (if now.sawFault then 2 else 0) + (if now.valueLoss then 4 else 0))] ++
            le4 s.trimmer.valueLoss ++ le2 s.line.config.vm)

/-- R153: no tally counter passes its maximum, and its flag is set exactly there, through every step. R141, R57: the run
table stays lawful: at most one PENDING and one OPEN run, and a LOADED bank for each run that is not CLOSED. R152: while
pieces stay in their limits and every record before the saw line has its run in the table, scanned balances the boards before
the saw line and the outcomes. -/
def Obligations.CountersAreFlaggedAtTheirMaximum : Prop :=
  (∀ s t : State, s.countersFlagged → step s = .next t → t.countersFlagged) ∧
  (∀ s t : State, s.runTableLawful → step s = .next t → t.runTableLawful) ∧
  (∀ s t : State, s.ringInOrder → s.configuringEmpty → s.runTableLawful → s.boardsOwned → s.piecesFit → s.runsBalance →
    step s = .next t → t.boardsOwned ∧ t.piecesFit ∧ t.runsBalance)

/-- R26, R38, R47, R66, R67, R68, R127, R141, R137: every table and collection stays within its places, and bin 0 is never
full, through every step. R21: no defect list passes 40 items. R106: the saw pattern queue holds one entry for each COMMITTED
record, in tag order, and never more than 30. -/
def Obligations.CollectionsStayWithinTheirPlaces : Prop :=
  (∀ s t : State, s.capacities → s.binZeroFree → step s = .next t → t.capacities ∧ t.binZeroFree) ∧
  (∀ s t : State, s.defectsFit → step s = .next t → t.defectsFit) ∧
  (∀ s t : State, s.ringInOrder → s.configuringEmpty → s.patternsFollow → step s = .next t → t.patternsFollow)

/-- R69: through every step, no engine is free while a board or a regrade waits. -/
def Obligations.NoEngineIdlesWhileWorkWaits : Prop := ∀ s t : State, s.arbiterDone → step s = .next t → t.arbiterDone

/-- R7, R11, R14, R15, R66: every record of the ring stands where its state belongs, the evaluation queue names QUEUED records
with the earliest tag first, and every step keeps it so. -/
def Obligations.RingStaysInOrder : Prop :=
  ∀ s t : State, s.ringInOrder → s.configuringEmpty → step s = .next t → t.ringInOrder

/-- R12: a committed final decision is never altered: no step changes the decision of a COMMITTED or CUT record. R5: a TRACKING
mark, once given, stays until the record leaves the ring. R10: a record keeps its run and bank until then. R9, R24: what
assembly close fixes in it (board number, measured length, OVERLENGTH, items, zone marks) does not change after the close. -/
def Obligations.CommittedDecisionsStand : Prop :=
  ∀ (s t : State) (b x : Board), s.ringInOrder → step s = .next t → b ∈ s.tracker.ring → x ∈ t.tracker.ring →
    x.tag = b.tag →
    (x.run = b.run ∧ x.bank = b.bank ∧ (b.tracking = true → x.tracking = true)) ∧
    (b.state ≠ .scanning →
      x.state ≠ .scanning ∧ x.number = b.number ∧ x.length = b.length ∧ x.overlength = b.overlength ∧
        x.defects = b.defects ∧ x.marks = b.marks) ∧
    ((b.state = .committed ∨ b.state = .cut) →
      x.decision = b.decision ∧ (x.state = .committed ∨ x.state = .cut))

/-- The state after reset meets every invariant above. -/
def Obligations.ResetMeetsTheInvariants : Prop :=
  State.reset.memoryWf ∧ State.reset.stopAgrees ∧ State.reset.queuesFit ∧ State.reset.configuringEmpty ∧
    State.reset.attentionFollows ∧ State.reset.countersFlagged ∧ State.reset.capacities ∧ State.reset.binZeroFree ∧
    State.reset.arbiterDone ∧ State.reset.ringInOrder ∧ State.reset.runTableLawful ∧ State.reset.boardsOwned ∧
    State.reset.piecesFit ∧ State.reset.runsBalance ∧ State.reset.defectsFit ∧ State.reset.patternsFollow
end

