-- ==== Sys2Proof/Laws/Fields.lean ====
section
/-! SUPPORT. The records that the part puts on its ports are the bytes that the statements write out (R181, R183, R184). -/

namespace Sys2Proof.Machine

theorem gradeCode_eq (g : Grade) : byteOf (gradeCode g) = gradeField g := by cases g <;> rfl

theorem causeCode_eq (c : Cause) : byteOf (causeCode c) = causeField c := by cases c <;> rfl

theorem sourceCode_eq (s : Source) : byteOf (sourceCode s) = sourceField s := by cases s <;> rfl

theorem overrideCode_eq (k : OverrideKind) : byteOf (overrideCode k) = overrideKindField k := by cases k <;> rfl

theorem decisionFlagsMask_eq (f : DecisionFlags) :
    decisionFlagsMask f =
      (if f.reduced then 1 else 0) + (if f.capped then 2 else 0) + (if f.overrideUnused then 4 else 0) +
        (if f.noBank then 8 else 0) + (if f.altBin then 16 else 0) + (if f.binDefault then 32 else 0) +
        (if f.truncated then 64 else 0) := by
  obtain ⟨a, b, c, d, e, f, g⟩ := f
  cases a <;> cases b <;> cases c <;> cases d <;> cases e <;> cases f <;> cases g <;> rfl

theorem pairBytes_eq (i j : Nat) : sawBytes (pairSet i j) = pairField i j := rfl

theorem decisionBlock_eq (d : Option FinalDecision) : decisionBlock d = decisionField d := by
  cases d with
  | none => rfl
  | some d =>
    obtain ⟨what, value, source, bin, flags⟩ := d
    simp only [decisionBlock, decisionField, ← decisionFlagsMask_eq, sourceCode_eq]
    cases what <;> cases bin <;>
      simp [decisionHead, gradeCode_eq, causeCode_eq, pairBytes_eq, optByte, absentByte, chosenSaws]
    <;> rfl

theorem advisoryBlock_eq (a : Option Advisory) : advisoryBlock a = advisoryField a := by
  rcases a with _ | (⟨i, j, g, v, r, c⟩ | ⟨s, r⟩ | c)
  · rfl
  · cases r <;> cases c <;> rfl
  · cases r <;> rfl
  · cases c <;> rfl

theorem overrideBlock_eq (o : Option Override) : overrideBlock o = overrideField o := by
  rcases o with _ | ⟨k, p, st, r, u⟩
  · rfl
  · cases k <;> cases p <;> cases st <;> cases r <;> cases u <;> rfl

theorem stampBytes_eq (t : Option (List Byte)) : stampBytes t = stampField t := by
  cases t with
  | none => rfl
  | some text => simp [stampBytes, stampField, Config.stampPlaces]

theorem sampledBytes_eq (x : Option Sampled) : sampledBytes x = sampledField x := by
  rcases x with _ | ⟨saws, outcome⟩
  · rfl
  · cases outcome <;> rfl

theorem markBytes_eq (marks : List ZoneMark) : markBytes marks = marksField marks := by
  unfold markBytes marksField
  show (List.range 12).map _ = _
  congr 1
  funext z
  cases marks[z]? with
  | none => rfl
  | some m => cases m <;> rfl

theorem configBytes_eq (c : LineParams) : configBytes c = configField c := rfl

theorem patternBytes_eq (x : ManualPattern) : patternBytes x = patternField x := by
  cases x <;> simp only [patternBytes, patternField, gradeCode_eq]

theorem logRecordBytes_eq (r : LogRecord) : logRecordBytes r = r.fields := by
  obtain ⟨a, b, c, d, e, f, suspect, overlength, unattributed⟩ := r
  cases suspect <;> cases overlength <;> cases unattributed <;> rfl

theorem boardReportHead_eq (b : Board) : boardReportHead b = b.fields := by
  simp only [boardReportHead, Board.fields, decisionBlock_eq, stampBytes_eq, advisoryBlock_eq, runBytes]

theorem boardViewReport_eq (b : Board) (o : Occasion) : boardViewReport b o = b.viewFields (byteOf (occasionCode o)) := by
  simp only [boardViewReport, Board.viewFields, boardReportHead_eq, overrideBlock_eq]

theorem decisionReport_eq (b : Board) :
    decisionReport b = b.fields ++ [match b.override with | none => 0xFF#8 | some o => overrideKindField o.kind] := by
  simp only [decisionReport, boardReportHead_eq, overrideKindByte]
  cases b.override with
  | none => rfl
  | some o => simp only [overrideCode_eq]

theorem dispatchReport_eq (b : Board) : dispatchReport b = b.dispatchFields b.unmarked := by
  have h : optByte (binOutput b) =
      match b.sampled, b.decision with
      | some x, some d =>
        match x.outcome, d.bin with
        | .mismatch, _ => 0x00#8
        | .normal, some n => byteOf n
        | .normal, none => 0xFF#8
      | _, _ => 0xFF#8 := by
    unfold binOutput
    rcases b.sampled with _ | ⟨saws, outcome⟩
    · rfl
    · cases b.decision with
      | none => rfl
      | some d => cases outcome <;> simp <;> cases d.bin <;> rfl
  simp only [dispatchReport, Board.dispatchFields, decisionBlock_eq, sampledBytes_eq, stampBytes_eq, runBytes, flagByte, h]
    <;> rfl

end Sys2Proof.Machine
end

