-- ==== Sys2Proof/Laws/State.lean ====
section
/-! SUPPORT. What each update of the state leaves alone: one lemma per field per update. -/

namespace Sys2Proof.Machine

@[simp] theorem State.setRing_intake (s : State) (r : List Board) : (s.setRing r).intake = s.intake := rfl
@[simp] theorem State.setRing_logs (s : State) (r : List Board) : (s.setRing r).logs = s.logs := rfl
@[simp] theorem State.setRing_rules (s : State) (r : List Board) : (s.setRing r).rules = s.rules := rfl
@[simp] theorem State.setRing_grading (s : State) (r : List Board) : (s.setRing r).grading = s.grading := rfl
@[simp] theorem State.setRing_patterns (s : State) (r : List Board) : (s.setRing r).patterns = s.patterns := rfl
@[simp] theorem State.setRing_trimmer (s : State) (r : List Board) : (s.setRing r).trimmer = s.trimmer := rfl
@[simp] theorem State.setRing_outfeed (s : State) (r : List Board) : (s.setRing r).outfeed = s.outfeed := rfl
@[simp] theorem State.setRing_tally (s : State) (r : List Board) : (s.setRing r).tally = s.tally := rfl
@[simp] theorem State.setRing_line (s : State) (r : List Board) : (s.setRing r).line = s.line := rfl
@[simp] theorem State.setRing_linePort (s : State) (r : List Board) : (s.setRing r).linePort = s.linePort := rfl
@[simp] theorem State.setRing_consolePort (s : State) (r : List Board) : (s.setRing r).consolePort = s.consolePort := rfl
@[simp] theorem State.setRing_selection (s : State) (r : List Board) : (s.setRing r).selection = s.selection := rfl
@[simp] theorem State.setRing_pins (s : State) (r : List Board) : (s.setRing r).pins = s.pins := rfl
@[simp] theorem State.setRing_outputs (s : State) (r : List Board) : (s.setRing r).outputs = s.outputs := rfl
@[simp] theorem State.setRing_draws (s : State) (r : List Board) : (s.setRing r).draws = s.draws := rfl
@[simp] theorem State.setRing_pending (s : State) (r : List Board) : (s.setRing r).pending = s.pending := rfl

@[simp] theorem State.setTracker_intake (s : State) (t : Tracker) : (s.setTracker t).intake = s.intake := rfl
@[simp] theorem State.setTracker_logs (s : State) (t : Tracker) : (s.setTracker t).logs = s.logs := rfl
@[simp] theorem State.setTracker_rules (s : State) (t : Tracker) : (s.setTracker t).rules = s.rules := rfl
@[simp] theorem State.setTracker_grading (s : State) (t : Tracker) : (s.setTracker t).grading = s.grading := rfl
@[simp] theorem State.setTracker_patterns (s : State) (t : Tracker) : (s.setTracker t).patterns = s.patterns := rfl
@[simp] theorem State.setTracker_trimmer (s : State) (t : Tracker) : (s.setTracker t).trimmer = s.trimmer := rfl
@[simp] theorem State.setTracker_outfeed (s : State) (t : Tracker) : (s.setTracker t).outfeed = s.outfeed := rfl
@[simp] theorem State.setTracker_tally (s : State) (t : Tracker) : (s.setTracker t).tally = s.tally := rfl
@[simp] theorem State.setTracker_line (s : State) (t : Tracker) : (s.setTracker t).line = s.line := rfl
@[simp] theorem State.setTracker_linePort (s : State) (t : Tracker) : (s.setTracker t).linePort = s.linePort := rfl
@[simp] theorem State.setTracker_consolePort (s : State) (t : Tracker) : (s.setTracker t).consolePort = s.consolePort := rfl
@[simp] theorem State.setTracker_selection (s : State) (t : Tracker) : (s.setTracker t).selection = s.selection := rfl
@[simp] theorem State.setTracker_pins (s : State) (t : Tracker) : (s.setTracker t).pins = s.pins := rfl
@[simp] theorem State.setTracker_outputs (s : State) (t : Tracker) : (s.setTracker t).outputs = s.outputs := rfl
@[simp] theorem State.setTracker_draws (s : State) (t : Tracker) : (s.setTracker t).draws = s.draws := rfl
@[simp] theorem State.setTracker_pending (s : State) (t : Tracker) : (s.setTracker t).pending = s.pending := rfl

@[simp] theorem State.setCalibrations_tracker (s : State) (cs : List Calibration) : (s.setCalibrations cs).tracker = s.tracker := rfl
@[simp] theorem State.setCalibrations_logs (s : State) (cs : List Calibration) : (s.setCalibrations cs).logs = s.logs := rfl
@[simp] theorem State.setCalibrations_rules (s : State) (cs : List Calibration) : (s.setCalibrations cs).rules = s.rules := rfl
@[simp] theorem State.setCalibrations_grading (s : State) (cs : List Calibration) : (s.setCalibrations cs).grading = s.grading := rfl
@[simp] theorem State.setCalibrations_patterns (s : State) (cs : List Calibration) : (s.setCalibrations cs).patterns = s.patterns := rfl
@[simp] theorem State.setCalibrations_trimmer (s : State) (cs : List Calibration) : (s.setCalibrations cs).trimmer = s.trimmer := rfl
@[simp] theorem State.setCalibrations_outfeed (s : State) (cs : List Calibration) : (s.setCalibrations cs).outfeed = s.outfeed := rfl
@[simp] theorem State.setCalibrations_tally (s : State) (cs : List Calibration) : (s.setCalibrations cs).tally = s.tally := rfl
@[simp] theorem State.setCalibrations_line (s : State) (cs : List Calibration) : (s.setCalibrations cs).line = s.line := rfl
@[simp] theorem State.setCalibrations_linePort (s : State) (cs : List Calibration) : (s.setCalibrations cs).linePort = s.linePort := rfl
@[simp] theorem State.setCalibrations_consolePort (s : State) (cs : List Calibration) : (s.setCalibrations cs).consolePort = s.consolePort := rfl
@[simp] theorem State.setCalibrations_selection (s : State) (cs : List Calibration) : (s.setCalibrations cs).selection = s.selection := rfl
@[simp] theorem State.setCalibrations_pins (s : State) (cs : List Calibration) : (s.setCalibrations cs).pins = s.pins := rfl
@[simp] theorem State.setCalibrations_outputs (s : State) (cs : List Calibration) : (s.setCalibrations cs).outputs = s.outputs := rfl
@[simp] theorem State.setCalibrations_draws (s : State) (cs : List Calibration) : (s.setCalibrations cs).draws = s.draws := rfl
@[simp] theorem State.setCalibrations_pending (s : State) (cs : List Calibration) : (s.setCalibrations cs).pending = s.pending := rfl

@[simp] theorem State.setLogs_tracker (s : State) (l : LogScaler) : (s.setLogs l).tracker = s.tracker := rfl
@[simp] theorem State.setLogs_intake (s : State) (l : LogScaler) : (s.setLogs l).intake = s.intake := rfl
@[simp] theorem State.setLogs_rules (s : State) (l : LogScaler) : (s.setLogs l).rules = s.rules := rfl
@[simp] theorem State.setLogs_grading (s : State) (l : LogScaler) : (s.setLogs l).grading = s.grading := rfl
@[simp] theorem State.setLogs_patterns (s : State) (l : LogScaler) : (s.setLogs l).patterns = s.patterns := rfl
@[simp] theorem State.setLogs_trimmer (s : State) (l : LogScaler) : (s.setLogs l).trimmer = s.trimmer := rfl
@[simp] theorem State.setLogs_outfeed (s : State) (l : LogScaler) : (s.setLogs l).outfeed = s.outfeed := rfl
@[simp] theorem State.setLogs_tally (s : State) (l : LogScaler) : (s.setLogs l).tally = s.tally := rfl
@[simp] theorem State.setLogs_line (s : State) (l : LogScaler) : (s.setLogs l).line = s.line := rfl
@[simp] theorem State.setLogs_linePort (s : State) (l : LogScaler) : (s.setLogs l).linePort = s.linePort := rfl
@[simp] theorem State.setLogs_consolePort (s : State) (l : LogScaler) : (s.setLogs l).consolePort = s.consolePort := rfl
@[simp] theorem State.setLogs_selection (s : State) (l : LogScaler) : (s.setLogs l).selection = s.selection := rfl
@[simp] theorem State.setLogs_pins (s : State) (l : LogScaler) : (s.setLogs l).pins = s.pins := rfl
@[simp] theorem State.setLogs_outputs (s : State) (l : LogScaler) : (s.setLogs l).outputs = s.outputs := rfl
@[simp] theorem State.setLogs_draws (s : State) (l : LogScaler) : (s.setLogs l).draws = s.draws := rfl
@[simp] theorem State.setLogs_pending (s : State) (l : LogScaler) : (s.setLogs l).pending = s.pending := rfl

@[simp] theorem State.setWindow_tracker (s : State) (w : Option LoadWindow) : (s.setWindow w).tracker = s.tracker := rfl
@[simp] theorem State.setWindow_intake (s : State) (w : Option LoadWindow) : (s.setWindow w).intake = s.intake := rfl
@[simp] theorem State.setWindow_logs (s : State) (w : Option LoadWindow) : (s.setWindow w).logs = s.logs := rfl
@[simp] theorem State.setWindow_grading (s : State) (w : Option LoadWindow) : (s.setWindow w).grading = s.grading := rfl
@[simp] theorem State.setWindow_patterns (s : State) (w : Option LoadWindow) : (s.setWindow w).patterns = s.patterns := rfl
@[simp] theorem State.setWindow_trimmer (s : State) (w : Option LoadWindow) : (s.setWindow w).trimmer = s.trimmer := rfl
@[simp] theorem State.setWindow_outfeed (s : State) (w : Option LoadWindow) : (s.setWindow w).outfeed = s.outfeed := rfl
@[simp] theorem State.setWindow_tally (s : State) (w : Option LoadWindow) : (s.setWindow w).tally = s.tally := rfl
@[simp] theorem State.setWindow_line (s : State) (w : Option LoadWindow) : (s.setWindow w).line = s.line := rfl
@[simp] theorem State.setWindow_linePort (s : State) (w : Option LoadWindow) : (s.setWindow w).linePort = s.linePort := rfl
@[simp] theorem State.setWindow_consolePort (s : State) (w : Option LoadWindow) : (s.setWindow w).consolePort = s.consolePort := rfl
@[simp] theorem State.setWindow_selection (s : State) (w : Option LoadWindow) : (s.setWindow w).selection = s.selection := rfl
@[simp] theorem State.setWindow_pins (s : State) (w : Option LoadWindow) : (s.setWindow w).pins = s.pins := rfl
@[simp] theorem State.setWindow_outputs (s : State) (w : Option LoadWindow) : (s.setWindow w).outputs = s.outputs := rfl
@[simp] theorem State.setWindow_draws (s : State) (w : Option LoadWindow) : (s.setWindow w).draws = s.draws := rfl
@[simp] theorem State.setWindow_pending (s : State) (w : Option LoadWindow) : (s.setWindow w).pending = s.pending := rfl

@[simp] theorem State.setBank_tracker (s : State) (n : BankName) (b : Bank) : (s.setBank n b).tracker = s.tracker := by cases n <;> rfl
@[simp] theorem State.setBank_intake (s : State) (n : BankName) (b : Bank) : (s.setBank n b).intake = s.intake := by cases n <;> rfl
@[simp] theorem State.setBank_logs (s : State) (n : BankName) (b : Bank) : (s.setBank n b).logs = s.logs := by cases n <;> rfl
@[simp] theorem State.setBank_grading (s : State) (n : BankName) (b : Bank) : (s.setBank n b).grading = s.grading := by cases n <;> rfl
@[simp] theorem State.setBank_patterns (s : State) (n : BankName) (b : Bank) : (s.setBank n b).patterns = s.patterns := by cases n <;> rfl
@[simp] theorem State.setBank_trimmer (s : State) (n : BankName) (b : Bank) : (s.setBank n b).trimmer = s.trimmer := by cases n <;> rfl
@[simp] theorem State.setBank_outfeed (s : State) (n : BankName) (b : Bank) : (s.setBank n b).outfeed = s.outfeed := by cases n <;> rfl
@[simp] theorem State.setBank_tally (s : State) (n : BankName) (b : Bank) : (s.setBank n b).tally = s.tally := by cases n <;> rfl
@[simp] theorem State.setBank_line (s : State) (n : BankName) (b : Bank) : (s.setBank n b).line = s.line := by cases n <;> rfl
@[simp] theorem State.setBank_linePort (s : State) (n : BankName) (b : Bank) : (s.setBank n b).linePort = s.linePort := by cases n <;> rfl
@[simp] theorem State.setBank_consolePort (s : State) (n : BankName) (b : Bank) : (s.setBank n b).consolePort = s.consolePort := by cases n <;> rfl
@[simp] theorem State.setBank_selection (s : State) (n : BankName) (b : Bank) : (s.setBank n b).selection = s.selection := by cases n <;> rfl
@[simp] theorem State.setBank_pins (s : State) (n : BankName) (b : Bank) : (s.setBank n b).pins = s.pins := by cases n <;> rfl
@[simp] theorem State.setBank_outputs (s : State) (n : BankName) (b : Bank) : (s.setBank n b).outputs = s.outputs := by cases n <;> rfl
@[simp] theorem State.setBank_draws (s : State) (n : BankName) (b : Bank) : (s.setBank n b).draws = s.draws := by cases n <;> rfl
@[simp] theorem State.setBank_pending (s : State) (n : BankName) (b : Bank) : (s.setBank n b).pending = s.pending := by cases n <;> rfl

@[simp] theorem State.setGrading_tracker (s : State) (g : Grading) : (s.setGrading g).tracker = s.tracker := rfl
@[simp] theorem State.setGrading_intake (s : State) (g : Grading) : (s.setGrading g).intake = s.intake := rfl
@[simp] theorem State.setGrading_logs (s : State) (g : Grading) : (s.setGrading g).logs = s.logs := rfl
@[simp] theorem State.setGrading_rules (s : State) (g : Grading) : (s.setGrading g).rules = s.rules := rfl
@[simp] theorem State.setGrading_patterns (s : State) (g : Grading) : (s.setGrading g).patterns = s.patterns := rfl
@[simp] theorem State.setGrading_trimmer (s : State) (g : Grading) : (s.setGrading g).trimmer = s.trimmer := rfl
@[simp] theorem State.setGrading_outfeed (s : State) (g : Grading) : (s.setGrading g).outfeed = s.outfeed := rfl
@[simp] theorem State.setGrading_tally (s : State) (g : Grading) : (s.setGrading g).tally = s.tally := rfl
@[simp] theorem State.setGrading_line (s : State) (g : Grading) : (s.setGrading g).line = s.line := rfl
@[simp] theorem State.setGrading_linePort (s : State) (g : Grading) : (s.setGrading g).linePort = s.linePort := rfl
@[simp] theorem State.setGrading_consolePort (s : State) (g : Grading) : (s.setGrading g).consolePort = s.consolePort := rfl
@[simp] theorem State.setGrading_selection (s : State) (g : Grading) : (s.setGrading g).selection = s.selection := rfl
@[simp] theorem State.setGrading_pins (s : State) (g : Grading) : (s.setGrading g).pins = s.pins := rfl
@[simp] theorem State.setGrading_outputs (s : State) (g : Grading) : (s.setGrading g).outputs = s.outputs := rfl
@[simp] theorem State.setGrading_draws (s : State) (g : Grading) : (s.setGrading g).draws = s.draws := rfl
@[simp] theorem State.setGrading_pending (s : State) (g : Grading) : (s.setGrading g).pending = s.pending := rfl

@[simp] theorem State.setTimer_tracker (s : State) (t : Option Nat) : (s.setTimer t).tracker = s.tracker := rfl
@[simp] theorem State.setTimer_intake (s : State) (t : Option Nat) : (s.setTimer t).intake = s.intake := rfl
@[simp] theorem State.setTimer_logs (s : State) (t : Option Nat) : (s.setTimer t).logs = s.logs := rfl
@[simp] theorem State.setTimer_rules (s : State) (t : Option Nat) : (s.setTimer t).rules = s.rules := rfl
@[simp] theorem State.setTimer_grading (s : State) (t : Option Nat) : (s.setTimer t).grading = s.grading := rfl
@[simp] theorem State.setTimer_patterns (s : State) (t : Option Nat) : (s.setTimer t).patterns = s.patterns := rfl
@[simp] theorem State.setTimer_outfeed (s : State) (t : Option Nat) : (s.setTimer t).outfeed = s.outfeed := rfl
@[simp] theorem State.setTimer_tally (s : State) (t : Option Nat) : (s.setTimer t).tally = s.tally := rfl
@[simp] theorem State.setTimer_line (s : State) (t : Option Nat) : (s.setTimer t).line = s.line := rfl
@[simp] theorem State.setTimer_linePort (s : State) (t : Option Nat) : (s.setTimer t).linePort = s.linePort := rfl
@[simp] theorem State.setTimer_consolePort (s : State) (t : Option Nat) : (s.setTimer t).consolePort = s.consolePort := rfl
@[simp] theorem State.setTimer_selection (s : State) (t : Option Nat) : (s.setTimer t).selection = s.selection := rfl
@[simp] theorem State.setTimer_pins (s : State) (t : Option Nat) : (s.setTimer t).pins = s.pins := rfl
@[simp] theorem State.setTimer_outputs (s : State) (t : Option Nat) : (s.setTimer t).outputs = s.outputs := rfl
@[simp] theorem State.setTimer_draws (s : State) (t : Option Nat) : (s.setTimer t).draws = s.draws := rfl
@[simp] theorem State.setTimer_pending (s : State) (t : Option Nat) : (s.setTimer t).pending = s.pending := rfl

@[simp] theorem State.setOwnership_tracker (s : State) (o : Ownership) : (s.setOwnership o).tracker = s.tracker := rfl
@[simp] theorem State.setOwnership_intake (s : State) (o : Ownership) : (s.setOwnership o).intake = s.intake := rfl
@[simp] theorem State.setOwnership_logs (s : State) (o : Ownership) : (s.setOwnership o).logs = s.logs := rfl
@[simp] theorem State.setOwnership_rules (s : State) (o : Ownership) : (s.setOwnership o).rules = s.rules := rfl
@[simp] theorem State.setOwnership_grading (s : State) (o : Ownership) : (s.setOwnership o).grading = s.grading := rfl
@[simp] theorem State.setOwnership_patterns (s : State) (o : Ownership) : (s.setOwnership o).patterns = s.patterns := rfl
@[simp] theorem State.setOwnership_outfeed (s : State) (o : Ownership) : (s.setOwnership o).outfeed = s.outfeed := rfl
@[simp] theorem State.setOwnership_tally (s : State) (o : Ownership) : (s.setOwnership o).tally = s.tally := rfl
@[simp] theorem State.setOwnership_line (s : State) (o : Ownership) : (s.setOwnership o).line = s.line := rfl
@[simp] theorem State.setOwnership_linePort (s : State) (o : Ownership) : (s.setOwnership o).linePort = s.linePort := rfl
@[simp] theorem State.setOwnership_consolePort (s : State) (o : Ownership) : (s.setOwnership o).consolePort = s.consolePort := rfl
@[simp] theorem State.setOwnership_selection (s : State) (o : Ownership) : (s.setOwnership o).selection = s.selection := rfl
@[simp] theorem State.setOwnership_pins (s : State) (o : Ownership) : (s.setOwnership o).pins = s.pins := rfl
@[simp] theorem State.setOwnership_outputs (s : State) (o : Ownership) : (s.setOwnership o).outputs = s.outputs := rfl
@[simp] theorem State.setOwnership_draws (s : State) (o : Ownership) : (s.setOwnership o).draws = s.draws := rfl
@[simp] theorem State.setOwnership_pending (s : State) (o : Ownership) : (s.setOwnership o).pending = s.pending := rfl

@[simp] theorem State.setManualPattern_tracker (s : State) (p : ManualPattern) : (s.setManualPattern p).tracker = s.tracker := rfl
@[simp] theorem State.setManualPattern_intake (s : State) (p : ManualPattern) : (s.setManualPattern p).intake = s.intake := rfl
@[simp] theorem State.setManualPattern_logs (s : State) (p : ManualPattern) : (s.setManualPattern p).logs = s.logs := rfl
@[simp] theorem State.setManualPattern_rules (s : State) (p : ManualPattern) : (s.setManualPattern p).rules = s.rules := rfl
@[simp] theorem State.setManualPattern_grading (s : State) (p : ManualPattern) : (s.setManualPattern p).grading = s.grading := rfl
@[simp] theorem State.setManualPattern_patterns (s : State) (p : ManualPattern) : (s.setManualPattern p).patterns = s.patterns := rfl
@[simp] theorem State.setManualPattern_outfeed (s : State) (p : ManualPattern) : (s.setManualPattern p).outfeed = s.outfeed := rfl
@[simp] theorem State.setManualPattern_tally (s : State) (p : ManualPattern) : (s.setManualPattern p).tally = s.tally := rfl
@[simp] theorem State.setManualPattern_line (s : State) (p : ManualPattern) : (s.setManualPattern p).line = s.line := rfl
@[simp] theorem State.setManualPattern_linePort (s : State) (p : ManualPattern) : (s.setManualPattern p).linePort = s.linePort := rfl
@[simp] theorem State.setManualPattern_consolePort (s : State) (p : ManualPattern) : (s.setManualPattern p).consolePort = s.consolePort := rfl
@[simp] theorem State.setManualPattern_selection (s : State) (p : ManualPattern) : (s.setManualPattern p).selection = s.selection := rfl
@[simp] theorem State.setManualPattern_pins (s : State) (p : ManualPattern) : (s.setManualPattern p).pins = s.pins := rfl
@[simp] theorem State.setManualPattern_outputs (s : State) (p : ManualPattern) : (s.setManualPattern p).outputs = s.outputs := rfl
@[simp] theorem State.setManualPattern_draws (s : State) (p : ManualPattern) : (s.setManualPattern p).draws = s.draws := rfl
@[simp] theorem State.setManualPattern_pending (s : State) (p : ManualPattern) : (s.setManualPattern p).pending = s.pending := rfl

@[simp] theorem State.setRuns_tracker (s : State) (r : List Run) : (s.setRuns r).tracker = s.tracker := rfl
@[simp] theorem State.setRuns_intake (s : State) (r : List Run) : (s.setRuns r).intake = s.intake := rfl
@[simp] theorem State.setRuns_logs (s : State) (r : List Run) : (s.setRuns r).logs = s.logs := rfl
@[simp] theorem State.setRuns_rules (s : State) (r : List Run) : (s.setRuns r).rules = s.rules := rfl
@[simp] theorem State.setRuns_grading (s : State) (r : List Run) : (s.setRuns r).grading = s.grading := rfl
@[simp] theorem State.setRuns_patterns (s : State) (r : List Run) : (s.setRuns r).patterns = s.patterns := rfl
@[simp] theorem State.setRuns_trimmer (s : State) (r : List Run) : (s.setRuns r).trimmer = s.trimmer := rfl
@[simp] theorem State.setRuns_outfeed (s : State) (r : List Run) : (s.setRuns r).outfeed = s.outfeed := rfl
@[simp] theorem State.setRuns_line (s : State) (r : List Run) : (s.setRuns r).line = s.line := rfl
@[simp] theorem State.setRuns_linePort (s : State) (r : List Run) : (s.setRuns r).linePort = s.linePort := rfl
@[simp] theorem State.setRuns_consolePort (s : State) (r : List Run) : (s.setRuns r).consolePort = s.consolePort := rfl
@[simp] theorem State.setRuns_selection (s : State) (r : List Run) : (s.setRuns r).selection = s.selection := rfl
@[simp] theorem State.setRuns_pins (s : State) (r : List Run) : (s.setRuns r).pins = s.pins := rfl
@[simp] theorem State.setRuns_outputs (s : State) (r : List Run) : (s.setRuns r).outputs = s.outputs := rfl
@[simp] theorem State.setRuns_draws (s : State) (r : List Run) : (s.setRuns r).draws = s.draws := rfl
@[simp] theorem State.setRuns_pending (s : State) (r : List Run) : (s.setRuns r).pending = s.pending := rfl

@[simp] theorem State.setLine_tracker (s : State) (l : LineControl) : (s.setLine l).tracker = s.tracker := rfl
@[simp] theorem State.setLine_intake (s : State) (l : LineControl) : (s.setLine l).intake = s.intake := rfl
@[simp] theorem State.setLine_logs (s : State) (l : LineControl) : (s.setLine l).logs = s.logs := rfl
@[simp] theorem State.setLine_rules (s : State) (l : LineControl) : (s.setLine l).rules = s.rules := rfl
@[simp] theorem State.setLine_grading (s : State) (l : LineControl) : (s.setLine l).grading = s.grading := rfl
@[simp] theorem State.setLine_patterns (s : State) (l : LineControl) : (s.setLine l).patterns = s.patterns := rfl
@[simp] theorem State.setLine_trimmer (s : State) (l : LineControl) : (s.setLine l).trimmer = s.trimmer := rfl
@[simp] theorem State.setLine_outfeed (s : State) (l : LineControl) : (s.setLine l).outfeed = s.outfeed := rfl
@[simp] theorem State.setLine_tally (s : State) (l : LineControl) : (s.setLine l).tally = s.tally := rfl
@[simp] theorem State.setLine_linePort (s : State) (l : LineControl) : (s.setLine l).linePort = s.linePort := rfl
@[simp] theorem State.setLine_consolePort (s : State) (l : LineControl) : (s.setLine l).consolePort = s.consolePort := rfl
@[simp] theorem State.setLine_selection (s : State) (l : LineControl) : (s.setLine l).selection = s.selection := rfl
@[simp] theorem State.setLine_pins (s : State) (l : LineControl) : (s.setLine l).pins = s.pins := rfl
@[simp] theorem State.setLine_outputs (s : State) (l : LineControl) : (s.setLine l).outputs = s.outputs := rfl
@[simp] theorem State.setLine_draws (s : State) (l : LineControl) : (s.setLine l).draws = s.draws := rfl
@[simp] theorem State.setLine_pending (s : State) (l : LineControl) : (s.setLine l).pending = s.pending := rfl

@[simp] theorem State.setPins_tracker (s : State) (p : Pins) : (s.setPins p).tracker = s.tracker := rfl
@[simp] theorem State.setPins_intake (s : State) (p : Pins) : (s.setPins p).intake = s.intake := rfl
@[simp] theorem State.setPins_logs (s : State) (p : Pins) : (s.setPins p).logs = s.logs := rfl
@[simp] theorem State.setPins_rules (s : State) (p : Pins) : (s.setPins p).rules = s.rules := rfl
@[simp] theorem State.setPins_grading (s : State) (p : Pins) : (s.setPins p).grading = s.grading := rfl
@[simp] theorem State.setPins_patterns (s : State) (p : Pins) : (s.setPins p).patterns = s.patterns := rfl
@[simp] theorem State.setPins_trimmer (s : State) (p : Pins) : (s.setPins p).trimmer = s.trimmer := rfl
@[simp] theorem State.setPins_outfeed (s : State) (p : Pins) : (s.setPins p).outfeed = s.outfeed := rfl
@[simp] theorem State.setPins_tally (s : State) (p : Pins) : (s.setPins p).tally = s.tally := rfl
@[simp] theorem State.setPins_line (s : State) (p : Pins) : (s.setPins p).line = s.line := rfl
@[simp] theorem State.setPins_linePort (s : State) (p : Pins) : (s.setPins p).linePort = s.linePort := rfl
@[simp] theorem State.setPins_consolePort (s : State) (p : Pins) : (s.setPins p).consolePort = s.consolePort := rfl
@[simp] theorem State.setPins_selection (s : State) (p : Pins) : (s.setPins p).selection = s.selection := rfl
@[simp] theorem State.setPins_outputs (s : State) (p : Pins) : (s.setPins p).outputs = s.outputs := rfl
@[simp] theorem State.setPins_draws (s : State) (p : Pins) : (s.setPins p).draws = s.draws := rfl
@[simp] theorem State.setPins_pending (s : State) (p : Pins) : (s.setPins p).pending = s.pending := rfl

@[simp] theorem State.withPending_tracker (s : State) (q : List Instr) : (s.withPending q).tracker = s.tracker := rfl
@[simp] theorem State.withPending_intake (s : State) (q : List Instr) : (s.withPending q).intake = s.intake := rfl
@[simp] theorem State.withPending_logs (s : State) (q : List Instr) : (s.withPending q).logs = s.logs := rfl
@[simp] theorem State.withPending_rules (s : State) (q : List Instr) : (s.withPending q).rules = s.rules := rfl
@[simp] theorem State.withPending_grading (s : State) (q : List Instr) : (s.withPending q).grading = s.grading := rfl
@[simp] theorem State.withPending_patterns (s : State) (q : List Instr) : (s.withPending q).patterns = s.patterns := rfl
@[simp] theorem State.withPending_trimmer (s : State) (q : List Instr) : (s.withPending q).trimmer = s.trimmer := rfl
@[simp] theorem State.withPending_outfeed (s : State) (q : List Instr) : (s.withPending q).outfeed = s.outfeed := rfl
@[simp] theorem State.withPending_tally (s : State) (q : List Instr) : (s.withPending q).tally = s.tally := rfl
@[simp] theorem State.withPending_line (s : State) (q : List Instr) : (s.withPending q).line = s.line := rfl
@[simp] theorem State.withPending_linePort (s : State) (q : List Instr) : (s.withPending q).linePort = s.linePort := rfl
@[simp] theorem State.withPending_consolePort (s : State) (q : List Instr) : (s.withPending q).consolePort = s.consolePort := rfl
@[simp] theorem State.withPending_selection (s : State) (q : List Instr) : (s.withPending q).selection = s.selection := rfl
@[simp] theorem State.withPending_pins (s : State) (q : List Instr) : (s.withPending q).pins = s.pins := rfl
@[simp] theorem State.withPending_outputs (s : State) (q : List Instr) : (s.withPending q).outputs = s.outputs := rfl
@[simp] theorem State.withPending_draws (s : State) (q : List Instr) : (s.withPending q).draws = s.draws := rfl

@[simp] theorem State.emit_tracker (s : State) (o : Output) : (s.emit o).tracker = s.tracker := rfl
@[simp] theorem State.emit_intake (s : State) (o : Output) : (s.emit o).intake = s.intake := rfl
@[simp] theorem State.emit_logs (s : State) (o : Output) : (s.emit o).logs = s.logs := rfl
@[simp] theorem State.emit_rules (s : State) (o : Output) : (s.emit o).rules = s.rules := rfl
@[simp] theorem State.emit_grading (s : State) (o : Output) : (s.emit o).grading = s.grading := rfl
@[simp] theorem State.emit_patterns (s : State) (o : Output) : (s.emit o).patterns = s.patterns := rfl
@[simp] theorem State.emit_trimmer (s : State) (o : Output) : (s.emit o).trimmer = s.trimmer := rfl
@[simp] theorem State.emit_outfeed (s : State) (o : Output) : (s.emit o).outfeed = s.outfeed := rfl
@[simp] theorem State.emit_tally (s : State) (o : Output) : (s.emit o).tally = s.tally := rfl
@[simp] theorem State.emit_line (s : State) (o : Output) : (s.emit o).line = s.line := rfl
@[simp] theorem State.emit_linePort (s : State) (o : Output) : (s.emit o).linePort = s.linePort := rfl
@[simp] theorem State.emit_consolePort (s : State) (o : Output) : (s.emit o).consolePort = s.consolePort := rfl
@[simp] theorem State.emit_selection (s : State) (o : Output) : (s.emit o).selection = s.selection := rfl
@[simp] theorem State.emit_pins (s : State) (o : Output) : (s.emit o).pins = s.pins := rfl
@[simp] theorem State.emit_draws (s : State) (o : Output) : (s.emit o).draws = s.draws := rfl
@[simp] theorem State.emit_pending (s : State) (o : Output) : (s.emit o).pending = s.pending := rfl

@[simp] theorem State.setPort_tracker (s : State) (p : Port) (q : PortState) : (s.setPort p q).tracker = s.tracker := by cases p <;> rfl
@[simp] theorem State.setPort_intake (s : State) (p : Port) (q : PortState) : (s.setPort p q).intake = s.intake := by cases p <;> rfl
@[simp] theorem State.setPort_logs (s : State) (p : Port) (q : PortState) : (s.setPort p q).logs = s.logs := by cases p <;> rfl
@[simp] theorem State.setPort_rules (s : State) (p : Port) (q : PortState) : (s.setPort p q).rules = s.rules := by cases p <;> rfl
@[simp] theorem State.setPort_grading (s : State) (p : Port) (q : PortState) : (s.setPort p q).grading = s.grading := by cases p <;> rfl
@[simp] theorem State.setPort_patterns (s : State) (p : Port) (q : PortState) : (s.setPort p q).patterns = s.patterns := by cases p <;> rfl
@[simp] theorem State.setPort_trimmer (s : State) (p : Port) (q : PortState) : (s.setPort p q).trimmer = s.trimmer := by cases p <;> rfl
@[simp] theorem State.setPort_outfeed (s : State) (p : Port) (q : PortState) : (s.setPort p q).outfeed = s.outfeed := by cases p <;> rfl
@[simp] theorem State.setPort_tally (s : State) (p : Port) (q : PortState) : (s.setPort p q).tally = s.tally := by cases p <;> rfl
@[simp] theorem State.setPort_line (s : State) (p : Port) (q : PortState) : (s.setPort p q).line = s.line := by cases p <;> rfl
@[simp] theorem State.setPort_selection (s : State) (p : Port) (q : PortState) : (s.setPort p q).selection = s.selection := by cases p <;> rfl
@[simp] theorem State.setPort_pins (s : State) (p : Port) (q : PortState) : (s.setPort p q).pins = s.pins := by cases p <;> rfl
@[simp] theorem State.setPort_outputs (s : State) (p : Port) (q : PortState) : (s.setPort p q).outputs = s.outputs := by cases p <;> rfl
@[simp] theorem State.setPort_draws (s : State) (p : Port) (q : PortState) : (s.setPort p q).draws = s.draws := by cases p <;> rfl
@[simp] theorem State.setPort_pending (s : State) (p : Port) (q : PortState) : (s.setPort p q).pending = s.pending := by cases p <;> rfl

@[simp] theorem State.setRx_tracker (s : State) (p : Port) (r : Receiver) : (s.setRx p r).tracker = s.tracker := by cases p <;> rfl
@[simp] theorem State.setRx_intake (s : State) (p : Port) (r : Receiver) : (s.setRx p r).intake = s.intake := by cases p <;> rfl
@[simp] theorem State.setRx_logs (s : State) (p : Port) (r : Receiver) : (s.setRx p r).logs = s.logs := by cases p <;> rfl
@[simp] theorem State.setRx_rules (s : State) (p : Port) (r : Receiver) : (s.setRx p r).rules = s.rules := by cases p <;> rfl
@[simp] theorem State.setRx_grading (s : State) (p : Port) (r : Receiver) : (s.setRx p r).grading = s.grading := by cases p <;> rfl
@[simp] theorem State.setRx_patterns (s : State) (p : Port) (r : Receiver) : (s.setRx p r).patterns = s.patterns := by cases p <;> rfl
@[simp] theorem State.setRx_trimmer (s : State) (p : Port) (r : Receiver) : (s.setRx p r).trimmer = s.trimmer := by cases p <;> rfl
@[simp] theorem State.setRx_outfeed (s : State) (p : Port) (r : Receiver) : (s.setRx p r).outfeed = s.outfeed := by cases p <;> rfl
@[simp] theorem State.setRx_tally (s : State) (p : Port) (r : Receiver) : (s.setRx p r).tally = s.tally := by cases p <;> rfl
@[simp] theorem State.setRx_line (s : State) (p : Port) (r : Receiver) : (s.setRx p r).line = s.line := by cases p <;> rfl
@[simp] theorem State.setRx_selection (s : State) (p : Port) (r : Receiver) : (s.setRx p r).selection = s.selection := by cases p <;> rfl
@[simp] theorem State.setRx_pins (s : State) (p : Port) (r : Receiver) : (s.setRx p r).pins = s.pins := by cases p <;> rfl
@[simp] theorem State.setRx_outputs (s : State) (p : Port) (r : Receiver) : (s.setRx p r).outputs = s.outputs := by cases p <;> rfl
@[simp] theorem State.setRx_draws (s : State) (p : Port) (r : Receiver) : (s.setRx p r).draws = s.draws := by cases p <;> rfl
@[simp] theorem State.setRx_pending (s : State) (p : Port) (r : Receiver) : (s.setRx p r).pending = s.pending := by cases p <;> rfl

@[simp] theorem State.pushReply_tracker (s : State) (p : Port) (f : Frame) : (s.pushReply p f).tracker = s.tracker := by cases p <;> rfl
@[simp] theorem State.pushReply_intake (s : State) (p : Port) (f : Frame) : (s.pushReply p f).intake = s.intake := by cases p <;> rfl
@[simp] theorem State.pushReply_logs (s : State) (p : Port) (f : Frame) : (s.pushReply p f).logs = s.logs := by cases p <;> rfl
@[simp] theorem State.pushReply_rules (s : State) (p : Port) (f : Frame) : (s.pushReply p f).rules = s.rules := by cases p <;> rfl
@[simp] theorem State.pushReply_grading (s : State) (p : Port) (f : Frame) : (s.pushReply p f).grading = s.grading := by cases p <;> rfl
@[simp] theorem State.pushReply_patterns (s : State) (p : Port) (f : Frame) : (s.pushReply p f).patterns = s.patterns := by cases p <;> rfl
@[simp] theorem State.pushReply_trimmer (s : State) (p : Port) (f : Frame) : (s.pushReply p f).trimmer = s.trimmer := by cases p <;> rfl
@[simp] theorem State.pushReply_outfeed (s : State) (p : Port) (f : Frame) : (s.pushReply p f).outfeed = s.outfeed := by cases p <;> rfl
@[simp] theorem State.pushReply_tally (s : State) (p : Port) (f : Frame) : (s.pushReply p f).tally = s.tally := by cases p <;> rfl
@[simp] theorem State.pushReply_line (s : State) (p : Port) (f : Frame) : (s.pushReply p f).line = s.line := by cases p <;> rfl
@[simp] theorem State.pushReply_selection (s : State) (p : Port) (f : Frame) : (s.pushReply p f).selection = s.selection := by cases p <;> rfl
@[simp] theorem State.pushReply_pins (s : State) (p : Port) (f : Frame) : (s.pushReply p f).pins = s.pins := by cases p <;> rfl
@[simp] theorem State.pushReply_outputs (s : State) (p : Port) (f : Frame) : (s.pushReply p f).outputs = s.outputs := by cases p <;> rfl
@[simp] theorem State.pushReply_draws (s : State) (p : Port) (f : Frame) : (s.pushReply p f).draws = s.draws := by cases p <;> rfl
@[simp] theorem State.pushReply_pending (s : State) (p : Port) (f : Frame) : (s.pushReply p f).pending = s.pending := by cases p <;> rfl

@[simp] theorem State.takeFrame_tracker (s : State) (p : Port) : (s.takeFrame p).tracker = s.tracker := by cases p <;> rfl
@[simp] theorem State.takeFrame_intake (s : State) (p : Port) : (s.takeFrame p).intake = s.intake := by cases p <;> rfl
@[simp] theorem State.takeFrame_logs (s : State) (p : Port) : (s.takeFrame p).logs = s.logs := by cases p <;> rfl
@[simp] theorem State.takeFrame_rules (s : State) (p : Port) : (s.takeFrame p).rules = s.rules := by cases p <;> rfl
@[simp] theorem State.takeFrame_grading (s : State) (p : Port) : (s.takeFrame p).grading = s.grading := by cases p <;> rfl
@[simp] theorem State.takeFrame_patterns (s : State) (p : Port) : (s.takeFrame p).patterns = s.patterns := by cases p <;> rfl
@[simp] theorem State.takeFrame_trimmer (s : State) (p : Port) : (s.takeFrame p).trimmer = s.trimmer := by cases p <;> rfl
@[simp] theorem State.takeFrame_outfeed (s : State) (p : Port) : (s.takeFrame p).outfeed = s.outfeed := by cases p <;> rfl
@[simp] theorem State.takeFrame_tally (s : State) (p : Port) : (s.takeFrame p).tally = s.tally := by cases p <;> rfl
@[simp] theorem State.takeFrame_line (s : State) (p : Port) : (s.takeFrame p).line = s.line := by cases p <;> rfl
@[simp] theorem State.takeFrame_selection (s : State) (p : Port) : (s.takeFrame p).selection = s.selection := by cases p <;> rfl
@[simp] theorem State.takeFrame_pins (s : State) (p : Port) : (s.takeFrame p).pins = s.pins := by cases p <;> rfl
@[simp] theorem State.takeFrame_outputs (s : State) (p : Port) : (s.takeFrame p).outputs = s.outputs := by cases p <;> rfl
@[simp] theorem State.takeFrame_pending (s : State) (p : Port) : (s.takeFrame p).pending = s.pending := by cases p <;> rfl

@[simp] theorem State.mapSaw_tracker (s : State) (k : Nat) (f : Saw → Saw) : (s.mapSaw k f).tracker = s.tracker := rfl
@[simp] theorem State.mapSaw_intake (s : State) (k : Nat) (f : Saw → Saw) : (s.mapSaw k f).intake = s.intake := rfl
@[simp] theorem State.mapSaw_logs (s : State) (k : Nat) (f : Saw → Saw) : (s.mapSaw k f).logs = s.logs := rfl
@[simp] theorem State.mapSaw_rules (s : State) (k : Nat) (f : Saw → Saw) : (s.mapSaw k f).rules = s.rules := rfl
@[simp] theorem State.mapSaw_grading (s : State) (k : Nat) (f : Saw → Saw) : (s.mapSaw k f).grading = s.grading := rfl
@[simp] theorem State.mapSaw_patterns (s : State) (k : Nat) (f : Saw → Saw) : (s.mapSaw k f).patterns = s.patterns := rfl
@[simp] theorem State.mapSaw_trimmer (s : State) (k : Nat) (f : Saw → Saw) : (s.mapSaw k f).trimmer = s.trimmer := rfl
@[simp] theorem State.mapSaw_tally (s : State) (k : Nat) (f : Saw → Saw) : (s.mapSaw k f).tally = s.tally := rfl
@[simp] theorem State.mapSaw_line (s : State) (k : Nat) (f : Saw → Saw) : (s.mapSaw k f).line = s.line := rfl
@[simp] theorem State.mapSaw_linePort (s : State) (k : Nat) (f : Saw → Saw) : (s.mapSaw k f).linePort = s.linePort := rfl
@[simp] theorem State.mapSaw_consolePort (s : State) (k : Nat) (f : Saw → Saw) : (s.mapSaw k f).consolePort = s.consolePort := rfl
@[simp] theorem State.mapSaw_selection (s : State) (k : Nat) (f : Saw → Saw) : (s.mapSaw k f).selection = s.selection := rfl
@[simp] theorem State.mapSaw_pins (s : State) (k : Nat) (f : Saw → Saw) : (s.mapSaw k f).pins = s.pins := rfl
@[simp] theorem State.mapSaw_outputs (s : State) (k : Nat) (f : Saw → Saw) : (s.mapSaw k f).outputs = s.outputs := rfl
@[simp] theorem State.mapSaw_draws (s : State) (k : Nat) (f : Saw → Saw) : (s.mapSaw k f).draws = s.draws := rfl
@[simp] theorem State.mapSaw_pending (s : State) (k : Nat) (f : Saw → Saw) : (s.mapSaw k f).pending = s.pending := rfl

@[simp] theorem State.mapFigures_tracker (s : State) (f : Unattributed → Unattributed) : (s.mapFigures f).tracker = s.tracker := rfl
@[simp] theorem State.mapFigures_intake (s : State) (f : Unattributed → Unattributed) : (s.mapFigures f).intake = s.intake := rfl
@[simp] theorem State.mapFigures_logs (s : State) (f : Unattributed → Unattributed) : (s.mapFigures f).logs = s.logs := rfl
@[simp] theorem State.mapFigures_rules (s : State) (f : Unattributed → Unattributed) : (s.mapFigures f).rules = s.rules := rfl
@[simp] theorem State.mapFigures_grading (s : State) (f : Unattributed → Unattributed) : (s.mapFigures f).grading = s.grading := rfl
@[simp] theorem State.mapFigures_patterns (s : State) (f : Unattributed → Unattributed) : (s.mapFigures f).patterns = s.patterns := rfl
@[simp] theorem State.mapFigures_trimmer (s : State) (f : Unattributed → Unattributed) : (s.mapFigures f).trimmer = s.trimmer := rfl
@[simp] theorem State.mapFigures_outfeed (s : State) (f : Unattributed → Unattributed) : (s.mapFigures f).outfeed = s.outfeed := rfl
@[simp] theorem State.mapFigures_line (s : State) (f : Unattributed → Unattributed) : (s.mapFigures f).line = s.line := rfl
@[simp] theorem State.mapFigures_linePort (s : State) (f : Unattributed → Unattributed) : (s.mapFigures f).linePort = s.linePort := rfl
@[simp] theorem State.mapFigures_consolePort (s : State) (f : Unattributed → Unattributed) : (s.mapFigures f).consolePort = s.consolePort := rfl
@[simp] theorem State.mapFigures_selection (s : State) (f : Unattributed → Unattributed) : (s.mapFigures f).selection = s.selection := rfl
@[simp] theorem State.mapFigures_pins (s : State) (f : Unattributed → Unattributed) : (s.mapFigures f).pins = s.pins := rfl
@[simp] theorem State.mapFigures_outputs (s : State) (f : Unattributed → Unattributed) : (s.mapFigures f).outputs = s.outputs := rfl
@[simp] theorem State.mapFigures_draws (s : State) (f : Unattributed → Unattributed) : (s.mapFigures f).draws = s.draws := rfl
@[simp] theorem State.mapFigures_pending (s : State) (f : Unattributed → Unattributed) : (s.mapFigures f).pending = s.pending := rfl

@[simp] theorem State.setRing_ring (s : State) (r : List Board) : (s.setRing r).tracker.ring = r := rfl
@[simp] theorem State.setRing_serial (s : State) (r : List Board) : (s.setRing r).tracker.serial = s.tracker.serial := rfl
@[simp] theorem State.setRuns_runs (s : State) (r : List Run) : (s.setRuns r).tally.runs = r := rfl
@[simp] theorem State.setGrading_grading (s : State) (g : Grading) : (s.setGrading g).grading = g := rfl
@[simp] theorem State.setLogs_logs (s : State) (l : LogScaler) : (s.setLogs l).logs = l := rfl
@[simp] theorem State.setLine_line (s : State) (l : LineControl) : (s.setLine l).line = l := rfl
@[simp] theorem State.setTracker_tracker (s : State) (t : Tracker) : (s.setTracker t).tracker = t := rfl
@[simp] theorem State.setPins_pins (s : State) (p : Pins) : (s.setPins p).pins = p := rfl
@[simp] theorem State.setWindow_window (s : State) (w : Option LoadWindow) : (s.setWindow w).rules.window = w := rfl
@[simp] theorem State.withPending_pending (s : State) (q : List Instr) : (s.withPending q).pending = q := rfl
@[simp] theorem State.emit_outputs (s : State) (o : Output) : (s.emit o).outputs = s.outputs ++ [o] := rfl
@[simp] theorem State.port_setPort (s : State) (p : Port) (q : PortState) : (s.setPort p q).port p = q := by cases p <;> rfl
@[simp] theorem State.setPort_port (s : State) (p : Port) : s.setPort p (s.port p) = s := by cases p <;> rfl
@[simp] theorem State.bank_setBank (s : State) (n : BankName) (b : Bank) : (s.setBank n b).bank n = b := by cases n <;> rfl
@[simp] theorem State.config_eq (s : State) : s.config = s.line.config := rfl

/-- A port's own update leaves the other port alone. -/
theorem State.port_setPort_of_ne (s : State) {p r : Port} (q : PortState) (h : r ≠ p) : (s.setPort p q).port r = s.port r := by
  cases p <;> cases r <;> first | rfl | exact absurd rfl h

/-- A bank's own update leaves the other bank alone. -/
theorem State.bank_setBank_of_ne (s : State) {n m : BankName} (b : Bank) (h : m ≠ n) : (s.setBank n b).bank m = s.bank m := by
  cases n <;> cases m <;> first | rfl | exact absurd rfl h

end Sys2Proof.Machine
end

