-- ==== Sys2Proof/Laws/Memory.lean ====
section
/-! SUPPORT. The cells of a bank: a write is read back, leaves every other cell alone, and keeps the canonical form. -/

namespace Sys2Proof.Machine

theorem lookupCell_filter_ne (cells : List Cell) {key k : Nat} (h : k ≠ key) :
    lookupCell (cells.filter fun c => c.1 ≠ key) k = lookupCell cells k := by
  induction cells with
  | nil => rfl
  | cons c cs ih =>
    by_cases hc : c.1 = key
    · have : c.1 ≠ k := fun e => h (e ▸ hc)
      simpa [lookupCell, hc, this, Ne.symm h] using ih
    · simp only [List.filter_cons, hc, ne_eq, not_false_eq_true, decide_true, if_true, lookupCell]
      split
      · rfl
      · exact ih

theorem lookupCell_filter_self (cells : List Cell) (key : Nat) :
    lookupCell (cells.filter fun c => c.1 ≠ key) key = none := by
  induction cells with
  | nil => rfl
  | cons c cs ih =>
    by_cases hc : c.1 = key
    · simpa [hc] using ih
    · simpa [lookupCell, hc] using ih

theorem lookupCell_none_of_lt {cells : List Cell} {key : Nat} (h : ∀ c ∈ cells, key < c.1) : lookupCell cells key = none := by
  induction cells with
  | nil => rfl
  | cons c cs ih =>
    have hc : c.1 ≠ key := Nat.ne_of_gt (h c (by simp))
    simpa [lookupCell, hc] using ih fun d hd => h d (by simp [hd])

theorem lookupCell_insertCell_self (cells : List Cell) (key : Nat) (v : BitVec 16) :
    lookupCell (insertCell cells key v) key = some v := by
  induction cells with
  | nil => simp [insertCell, lookupCell]
  | cons c cs ih =>
    unfold insertCell
    split
    · simp [lookupCell]
    · split
      · simp [lookupCell]
      · rename_i h1 h2
        have hc : c.1 ≠ key := fun e => h2 e.symm
        simpa [lookupCell, hc] using ih

theorem lookupCell_insertCell_ne (cells : List Cell) {key k : Nat} (v : BitVec 16) (h : k ≠ key) :
    lookupCell (insertCell cells key v) k = lookupCell cells k := by
  induction cells with
  | nil => simp [insertCell, lookupCell, Ne.symm h]
  | cons c cs ih =>
    unfold insertCell
    split
    · simp [lookupCell, Ne.symm h]
    · split
      · rename_i h1 h2
        have hc : c.1 ≠ k := fun e => h (e ▸ h2.symm)
        simp [lookupCell, Ne.symm h, hc]
      · simp only [lookupCell]
        split
        · rfl
        · exact ih

/-- A cell just written reads as the value written. -/
theorem readCell_writeCell_self (cells : List Cell) (key : Nat) (v : BitVec 16) :
    readCell (writeCell cells key v) key = v := by
  unfold writeCell
  split
  · rename_i h
    rw [readCell, lookupCell_filter_self, h]
    rfl
  · simp [readCell, lookupCell_insertCell_self]

/-- A write leaves every other cell as it was. -/
theorem readCell_writeCell_ne (cells : List Cell) {key k : Nat} (v : BitVec 16) (h : k ≠ key) :
    readCell (writeCell cells key v) k = readCell cells k := by
  unfold writeCell
  split
  · simp only [readCell, lookupCell_filter_ne cells h]
  · simp only [readCell, lookupCell_insertCell_ne cells v h]

theorem mem_insertCell {cells : List Cell} {key : Nat} {v : BitVec 16} {c : Cell} (h : c ∈ insertCell cells key v) :
    c = (key, v) ∨ c ∈ cells := by
  induction cells with
  | nil => simpa [insertCell] using h
  | cons d ds ih =>
    unfold insertCell at h
    split at h
    · simpa using h
    · split at h
      · rcases List.mem_cons.1 h with h | h
        · exact .inl h
        · exact .inr (by simp [h])
      · rcases List.mem_cons.1 h with h | h
        · exact .inr (by simp [h])
        · rcases ih h with h | h
          · exact .inl h
          · exact .inr (by simp [h])

theorem insertCell_sorted {cells : List Cell} (key : Nat) (v : BitVec 16)
    (h : cells.Pairwise fun x y => x.1 < y.1) : (insertCell cells key v).Pairwise fun x y => x.1 < y.1 := by
  induction cells with
  | nil => simp [insertCell]
  | cons c cs ih =>
    have hc := List.pairwise_cons.1 h
    unfold insertCell
    split
    · rename_i hk
      refine List.pairwise_cons.2 ⟨fun d hd => ?_, h⟩
      rcases List.mem_cons.1 hd with rfl | hd
      · exact hk
      · exact Nat.lt_trans hk (hc.1 d hd)
    · split
      · rename_i hk
        exact List.pairwise_cons.2 ⟨fun d hd => hk ▸ hc.1 d hd, hc.2⟩
      · rename_i h1 h2
        refine List.pairwise_cons.2 ⟨fun d hd => ?_, ih hc.2⟩
        rcases mem_insertCell hd with rfl | hd
        · exact Nat.lt_of_le_of_ne (Nat.le_of_not_lt h1) (Ne.symm h2)
        · exact hc.1 d hd

/-- A write keeps the canonical form. -/
theorem cellsWf_writeCell {cells : List Cell} (key : Nat) (v : BitVec 16) (h : cellsWf cells) :
    cellsWf (writeCell cells key v) := by
  unfold writeCell
  split
  · exact ⟨h.1.filter _, fun c hc => h.2 c (List.mem_filter.1 hc).1⟩
  · rename_i hv
    refine ⟨insertCell_sorted key v h.1, fun c hc => ?_⟩
    rcases mem_insertCell hc with rfl | hc
    · exact hv
    · exact h.2 c hc

/-- The canonical form holds at reset. -/
theorem reset_memoryWf : State.reset.memoryWf := by
  exact ⟨⟨.nil, by simp [State.reset, emptyBank]⟩, ⟨.nil, by simp [State.reset, emptyBank]⟩⟩

/-- One value of a TABLE_DATA keeps the canonical form. -/
theorem cellsWf_put (l : Load) (v : Nat) (h : cellsWf l.cells) : cellsWf (l.put v).cells := by
  unfold Load.put
  split
  · exact h
  · exact cellsWf_writeCell _ _ h

/-- A TABLE_DATA keeps the canonical form. -/
theorem cellsWf_load (l : Load) (values : List Nat) (h : cellsWf l.cells) : cellsWf (values.foldl Load.put l).cells := by
  induction values generalizing l with
  | nil => exact h
  | cons v vs ih => exact ih _ (cellsWf_put l v h)

/-- Equal memories are equal data: in canonical form two cell lists that read alike are one list. -/
theorem cells_ext {xs ys : List Cell} (hx : cellsWf xs) (hy : cellsWf ys) (h : ∀ k, readCell xs k = readCell ys k) :
    xs = ys := by
  induction xs generalizing ys with
  | nil =>
    cases ys with
    | nil => rfl
    | cons c cs =>
      have := h c.1
      simp [readCell, lookupCell] at this
      exact absurd this.symm (hy.2 c (by simp))
  | cons c cs ih =>
    have hcs : cellsWf cs := ⟨(List.pairwise_cons.1 hx.1).2, fun d hd => hx.2 d (by simp [hd])⟩
    have low : lookupCell cs c.1 = none := lookupCell_none_of_lt (List.pairwise_cons.1 hx.1).1
    cases ys with
    | nil =>
      have := h c.1
      simp [readCell, lookupCell] at this
      exact absurd this (hx.2 c (by simp))
    | cons d ds =>
      have hds : cellsWf ds := ⟨(List.pairwise_cons.1 hy.1).2, fun e he => hy.2 e (by simp [he])⟩
      have lowd : lookupCell ds d.1 = none := lookupCell_none_of_lt (List.pairwise_cons.1 hy.1).1
      have key : c.1 = d.1 := by
        rcases Nat.lt_trichotomy c.1 d.1 with hl | he | hl
        · have hn : lookupCell (d :: ds) c.1 = none := by
            refine lookupCell_none_of_lt fun e he => ?_
            rcases List.mem_cons.1 he with rfl | he
            · exact hl
            · exact Nat.lt_trans hl ((List.pairwise_cons.1 hy.1).1 e he)
          have hc := h c.1
          rw [readCell, readCell, hn] at hc
          simp only [lookupCell, if_true, Option.getD_some, Option.getD_none] at hc
          exact absurd hc (hx.2 c (by simp))
        · exact he
        · have hn : lookupCell (c :: cs) d.1 = none := by
            refine lookupCell_none_of_lt fun e he => ?_
            rcases List.mem_cons.1 he with rfl | he
            · exact hl
            · exact Nat.lt_trans hl ((List.pairwise_cons.1 hx.1).1 e he)
          have hd := h d.1
          rw [readCell, readCell, hn] at hd
          simp only [lookupCell, if_true, Option.getD_some, Option.getD_none] at hd
          exact absurd hd.symm (hy.2 d (by simp))
      have val : c.2 = d.2 := by
        have := h c.1
        simpa [readCell, lookupCell, key] using this
      have tail : cs = ds := by
        refine ih hcs hds fun k => ?_
        by_cases hk : k = c.1
        · rw [hk]
          rw [readCell, readCell, low, key, lowd]
        · have := h k
          simpa [readCell, lookupCell, Ne.symm hk, key ▸ Ne.symm hk] using this
      rw [tail, Prod.ext key val]

end Sys2Proof.Machine
end

