-- ==== Sys2Proof/Laws/Ops.lean ====
section
/-! SUPPORT. What the shared operations can do: the reports and notices, the outbound queue, the taking of a request,
the board ring, the counters. -/

namespace Sys2Proof.Machine

/-! ### The outbound queue (R171) -/

/-- A shorter queue by exactly one frame, when it holds an informational one. -/
theorem dropNewestInfo_length {fs rest : List Frame} (h : dropNewestInfo fs = some rest) : rest.length + 1 = fs.length := by
  induction fs generalizing rest with
  | nil => simp [dropNewestInfo] at h
  | cons f fs ih =>
    unfold dropNewestInfo at h
    split at h
    · rename_i r hr
      cases h
      simp [ih hr]
    · split at h
      · cases h
        simp
      · simp at h

/-- Every frame that is not informational stays when the newest informational one is removed. -/
theorem mem_dropNewestInfo {fs rest : List Frame} (h : dropNewestInfo fs = some rest) {f : Frame} (hf : f ∈ fs)
    (hi : f.informational = false) : f ∈ rest := by
  induction fs generalizing rest with
  | nil => simp [dropNewestInfo] at h
  | cons g gs ih =>
    unfold dropNewestInfo at h
    split at h
    · rename_i r hr
      cases h
      rcases List.mem_cons.1 hf with rfl | hf
      · simp
      · exact List.mem_cons_of_mem _ (ih hr hf)
    · split at h
      · rename_i hg
        cases h
        rcases List.mem_cons.1 hf with rfl | hf
        · rw [hi] at hg
          cases hg
        · exact hf
      · simp at h

/-- All that offering a frame to a queue can do: admit it at the end, drop it and count it, or admit it in place of the
newest informational frame not yet begun. -/
theorem PortState.offer_cases (q : PortState) (n r : Nat) (f : Frame) :
    (q.offer n r f = { q with outbound := q.outbound ++ [f] } ∧ q.outbound.length < n ∧
        (f.informational = true → q.outbound.length < n - r)) ∨
      (q.offer n r f = { q with lost := satAdd Config.max32 q.lost 1 } ∧ f.informational = true ∧
        n - r ≤ q.outbound.length) ∨
      (q.offer n r f = { q with priorityLoss := satAdd Config.max16 q.priorityLoss 1 } ∧ f.informational = false ∧
        n ≤ q.outbound.length) ∨
      (∃ rest, dropNewestInfo (q.outbound.drop 1) = some rest ∧ f.informational = false ∧ n ≤ q.outbound.length ∧
        q.offer n r f =
          { q with outbound := q.outbound.take 1 ++ rest ++ [f], lost := satAdd Config.max32 q.lost 1 }) := by
  unfold PortState.offer
  split
  · rename_i hi
    split
    · exact .inl ⟨rfl, by omega, fun _ => by assumption⟩
    · exact .inr (.inl ⟨rfl, hi, by omega⟩)
  · rename_i hi
    have hi : f.informational = false := by simpa using hi
    split
    · exact .inl ⟨rfl, by assumption, fun h => by rw [hi] at h; cases h⟩
    · split
      · rename_i rest hr
        exact .inr (.inr (.inr ⟨rest, hr, hi, by omega, rfl⟩))
      · exact .inr (.inr (.inl ⟨rfl, hi, by omega⟩))

/-- A queue within its places stays within them. -/
theorem PortState.offer_length {q : PortState} {n r : Nat} (f : Frame) (h : q.outbound.length ≤ n) :
    (q.offer n r f).outbound.length ≤ n := by
  rcases q.offer_cases n r f with ⟨e, hl, -⟩ | ⟨e, -⟩ | ⟨e, -⟩ | ⟨rest, hr, -, -, e⟩
  · rw [e]
    simp
    omega
  · rw [e]
    exact h
  · rw [e]
    exact h
  · have := dropNewestInfo_length hr
    rw [e]
    simp at this ⊢
    omega

/-- A frame that is not informational stays in the queue. -/
theorem PortState.mem_offer {q : PortState} {n r : Nat} {f g : Frame} (hg : g ∈ q.outbound)
    (hi : g.informational = false) : g ∈ (q.offer n r f).outbound := by
  rcases q.offer_cases n r f with ⟨e, -⟩ | ⟨e, -⟩ | ⟨e, -⟩ | ⟨rest, hr, -, -, e⟩
  · rw [e]
    simp [hg]
  · rw [e]
    exact hg
  · rw [e]
    exact hg
  · rw [e]
    have : g ∈ q.outbound.take 1 ++ q.outbound.drop 1 := by rwa [List.take_append_drop]
    rcases List.mem_append.1 this with h | h
    · simp [h]
    · simp [mem_dropNewestInfo hr h hi]

/-- Offering touches nothing of a port but its queue and its two loss counts. -/
theorem PortState.offer_kept (q : PortState) (n r : Nat) (f : Frame) :
    (q.offer n r f).rx = q.rx ∧ (q.offer n r f).inbound = q.inbound ∧ (q.offer n r f).overrun = q.overrun := by
  rcases q.offer_cases n r f with ⟨e, -⟩ | ⟨e, -⟩ | ⟨e, -⟩ | ⟨rest, -, -, -, e⟩ <;> simp [e]

/-! ### Taking a request (R168) -/

/-- A request that waits is taken: the reply and then the effect. -/
theorem State.takeRequest_asks {s : State} {p : Port} {f : Frame} (h : s.asks p f) (handler : List Byte → State → Answer) :
    s.takeRequest p f.kind handler =
      (s.takeFrame p).answer p f
        (if inRequestSet p f.kind then handler f.body (s.takeFrame p) else refuse .unknownKind) := by
  simp [State.takeRequest, State.waiting, h.1, h.2]

/-- A request of a kind in the port's set, with the answer its rule gives. -/
theorem State.takeRequest_answer {s : State} {p : Port} {f : Frame} {kind : Byte} (h : s.asks p f) (hk : f.kind = kind)
    (hp : inRequestSet p kind = true) (handler : List Byte → State → Answer) :
    s.takeRequest p kind handler = (s.takeFrame p).answer p f (handler f.body (s.takeFrame p)) := by
  subst hk
  rw [State.takeRequest_asks h, if_pos hp]

/-- Nothing happens where no frame of the kind waits. -/
theorem State.takeRequest_none {s : State} {p : Port} {kind : Byte} (h : ∀ f, s.asks p f → f.kind ≠ kind)
    (handler : List Byte → State → Answer) : s.takeRequest p kind handler = s := by
  unfold State.takeRequest State.waiting
  by_cases hl : (s.port p).outbound.length < places p
  · cases hi : (s.port p).inbound with
    | none => simp [hl]
    | some f => simp [hl, h f ⟨hi, hl⟩]
  · simp [hl]

/-- The buffer emptied and the reply queued. -/
theorem State.takeFrame_pushReply (s : State) (p : Port) (f : Frame) (body : List Byte) :
    (s.takeFrame p).pushReply p (replyFrame f body) = s.replied p f body := by
  cases p <;> rfl

/-- An answer given: its effect on the state that holds the reply. -/
theorem State.answer_eq (s : State) (p : Port) (f : Frame) (a : Answer) :
    (s.takeFrame p).answer p f a = a.effect (s.replied p f a.reply) := by
  rw [State.answer, State.takeFrame_pushReply]

/-- R179: the part writes the result codes of the table. -/
theorem resultCode_eq (r : Result) : resultCode r = resultField r := by cases r <;> rfl

/-- A refusal changes nothing but the reply. -/
theorem State.answer_refuse (s : State) (p : Port) (f : Frame) (r : Result) :
    (s.takeFrame p).answer p f (refuse r) = s.replied p f (codeAlone r) := by
  rw [State.answer_eq, codeAlone, ← resultCode_eq]
  rfl

/-! ### Frames of the shared operations -/

theorem State.sameExcept.refl (l : List Block) (s : State) : s.sameExcept l s := by
  intro b _
  cases b <;> rfl

theorem State.sameExcept.trans {l : List Block} {s t u : State} (h1 : s.sameExcept l t) (h2 : t.sameExcept l u) :
    s.sameExcept l u := by
  intro b hb
  have a1 := h1 b hb
  have a2 := h2 b hb
  cases b <;> simp only [State.agrees] at * <;> exact a2.trans a1

theorem State.sameExcept.mono {l m : List Block} {s t : State} (h : s.sameExcept l t) (hl : ∀ b ∈ l, b ∈ m) :
    s.sameExcept m t := fun b hb => h b fun hm => hb (hl b hm)

/-- A fold of operations that each leave the same blocks alone. -/
theorem State.sameExcept.foldl {α : Type} {l : List Block} {f : State → α → State} (h : ∀ (s : State) a, s.sameExcept l (f s a))
    (xs : List α) (s : State) : s.sameExcept l (xs.foldl f s) := by
  induction xs generalizing s with
  | nil => exact .refl l s
  | cons x xs ih => exact (h s x).trans (ih (f s x))

/-- The two ports. -/
abbrev portBlocks : List Block := [.linePort, .consolePort]

theorem State.offer_same (s : State) (p : Port) (k : Byte) (body : List Byte) : s.sameExcept portBlocks (s.offer p k body) := by
  intro b hb
  unfold State.offer
  split
  · cases b <;> rfl
  · cases p <;> cases b <;> first | rfl | simp at hb

theorem State.notice_same (s : State) (n : Notice) : s.sameExcept portBlocks (s.notice n) := by
  unfold State.notice
  split
  · exact s.offer_same _ _ _
  · exact .refl _ s

theorem State.reportOwner_same (s : State) (c : OwnerCause) (t : Tag) : s.sameExcept portBlocks (s.reportOwner c t) :=
  (s.offer_same _ _ _).trans (State.offer_same _ _ _ _)

theorem State.reportAttention_same (s : State) : s.sameExcept portBlocks s.reportAttention := s.offer_same _ _ _

theorem State.reportDrainDone_same (s : State) (d : DrainStatus) (t : Tag) : s.sameExcept portBlocks (s.reportDrainDone d t) :=
  s.offer_same _ _ _

/-- Blocks that a change of one block leaves alone, and then a frame. -/
theorem State.sameExcept.after {l m : List Block} {s t u : State} (h1 : s.sameExcept l t) (h2 : t.sameExcept m u)
    {k : List Block} (hl : ∀ b ∈ l, b ∈ k) (hm : ∀ b ∈ m, b ∈ k) : s.sameExcept k u := (h1.mono hl).trans (h2.mono hm)

theorem State.raiseFault_same (s : State) (f : UrgentFault) : s.sameExcept [.line, .linePort, .consolePort] (s.raiseFault f) := by
  have h1 : ∀ l : LineControl, s.sameExcept [.line] { s with line := l } := by
    intro l b hb
    cases b <;> first | rfl | simp at hb
  exact (h1 _).after ((State.offer_same _ _ _ _).trans (State.offer_same _ _ _ _)) (by decide) (by decide)

/-- The blocks a change of the attention reason set may touch. -/
abbrev attentionBlocks : List Block := [.trimmer, .linePort, .consolePort]

theorem State.setAttention_same (s : State) (a : Attention) : s.sameExcept attentionBlocks (s.setAttention a) := by
  unfold State.setAttention
  split
  · exact .refl _ s
  · have h1 : s.sameExcept [.trimmer] { s with trimmer := { s.trimmer with attention := a } } := by
      intro b hb
      cases b <;> first | rfl | simp at hb
    exact h1.after (State.reportAttention_same _) (by decide) (by decide)

theorem State.refreshAttention_same (s : State) : s.sameExcept attentionBlocks s.refreshAttention := s.setAttention_same _

theorem State.clearValueLoss_same (s : State) : s.sameExcept attentionBlocks s.clearValueLoss := by
  have h1 : s.sameExcept [.trimmer] { s with trimmer := { s.trimmer with valueLoss := 0 } } := by
    intro b hb
    cases b <;> first | rfl | simp at hb
  exact h1.after (State.setAttention_same _ _) (by decide) (by decide)

theorem State.accountLoss_same (s : State) (a : Option Advisory) (n : Nat) : s.sameExcept attentionBlocks (s.accountLoss a n) := by
  unfold State.accountLoss
  split
  · rename_i value _ _
    have h1 : ∀ v, s.sameExcept [.trimmer] { s with trimmer := { s.trimmer with valueLoss := v } } := by
      intro v b hb
      cases b <;> first | rfl | simp at hb
    dsimp only
    split
    · exact (h1 _).after (State.setAttention_same _ _) (by decide) (by decide)
    · exact (h1 _).mono (by decide)
  · exact .refl _ s

/-- The blocks a count may touch. -/
abbrev countBlocks : List Block := [.tally, .linePort, .consolePort]

theorem State.setRuns_same (s : State) (r : List Run) : s.sameExcept [.tally] (s.setRuns r) := by
  intro b hb
  cases b <;> first | rfl | simp at hb

theorem State.count_same (s : State) (id k n : Nat) : s.sameExcept countBlocks (s.count id k n) := by
  unfold State.count
  split
  · exact .refl _ s
  · dsimp only
    split
    · exact (s.setRuns_same _).after (State.notice_same _ _) (by decide) (by decide)
    · exact (s.setRuns_same _).mono (by decide)

theorem State.mapFigures_same (s : State) (f : Unattributed → Unattributed) : s.sameExcept [.tally] (s.mapFigures f) := by
  intro b hb
  cases b <;> first | rfl | simp at hb

theorem State.countAll_same (s : State) (id : Nat) (adds : List (Nat × Nat)) : s.sameExcept countBlocks (s.countAll id adds) := by
  unfold State.countAll
  induction adds generalizing s with
  | nil => exact .refl _ s
  | cons a adds ih => exact (s.count_same id a.1 a.2).trans (ih _)

theorem State.setRing_same (s : State) (r : List Board) : s.sameExcept [.tracker] (s.setRing r) := by
  intro b hb
  cases b <;> first | rfl | simp at hb

theorem State.mapBoard_same (s : State) (t : Tag) (f : Board → Board) : s.sameExcept [.tracker] (s.mapBoard t f) :=
  s.setRing_same _

theorem State.testDrain_same (s : State) : s.sameExcept [.line, .linePort, .consolePort] s.testDrain := by
  unfold State.testDrain
  split
  · exact .refl _ s
  · split
    · exact .refl _ s
    · have h1 : ∀ l : LineControl, s.sameExcept [.line] { s with line := l } := by
        intro l b hb
        cases b <;> first | rfl | simp at hb
      exact (h1 _).after (State.reportDrainDone_same _ _ _) (by decide) (by decide)

theorem State.removeBoard_same (s : State) (t : Tag) : s.sameExcept [.tracker, .line, .linePort, .consolePort] (s.removeBoard t) :=
  (s.setRing_same _).after (State.testDrain_same _) (by decide) (by decide)

theorem State.mapHead_same (s : State) (h : Nat) (f : Head → Head) : s.sameExcept [.intake] (s.mapHead h f) := by
  unfold State.mapHead
  split
  · exact .refl _ s
  · intro b hb
    cases b <;> first | rfl | simp at hb

theorem State.setCalibrations_same (s : State) (cs : List Calibration) : s.sameExcept [.intake] (s.setCalibrations cs) := by
  intro b hb
  cases b <;> first | rfl | simp at hb

theorem State.shuffle_same {α : Type} (s : State) (l : List α) : s.sameExcept [.draws] (s.shuffle l).2 := by
  intro b hb
  cases b <;> first | rfl | simp at hb

theorem State.setGrading_same (s : State) (g : Grading) : s.sameExcept [.grading] (s.setGrading g) := by
  intro b hb
  cases b <;> first | rfl | simp at hb

/-! ### The grading unit -/

/-- The blocks the arbiter may touch. -/
abbrev gradingBlocks : List Block := [.tracker, .grading]

theorem State.arbitrateOnce_same (s : State) : s.sameExcept gradingBlocks s.arbitrateOnce := by
  unfold State.arbitrateOnce
  split
  · exact .refl _ s
  · split
    · unfold State.takeBoard
      split
      · exact .refl _ s
      · exact (s.setGrading_same _).after (State.mapBoard_same _ _ _) (by decide) (by decide)
    · unfold State.takeRegrade
      split
      · exact .refl _ s
      · exact (s.setGrading_same _).mono (by decide)

theorem State.arbitrate_same (s : State) : s.sameExcept gradingBlocks s.arbitrate :=
  (s.arbitrateOnce_same.trans (State.arbitrateOnce_same _)).trans (State.arbitrateOnce_same _)

theorem State.enqueueBoard_same (s : State) (t : Tag) : s.sameExcept gradingBlocks (s.enqueueBoard t) :=
  (s.setGrading_same _).after (State.arbitrate_same _) (by decide) (by decide)

theorem State.abandonBoard_same (s : State) (t : Tag) : s.sameExcept gradingBlocks (s.abandonBoard t) :=
  (((s.setGrading_same _).trans (State.setGrading_same _ _)).mono (by decide)).trans (State.arbitrate_same _)

/-! ### The scan intake -/

theorem State.countScanned_same (s : State) (run : Option Nat) : s.sameExcept countBlocks (s.countScanned run).1 := by
  unfold State.countScanned
  split
  · exact (s.mapFigures_same _).mono (by decide)
  · exact s.count_same _ _ _

/-- The blocks a kept record may touch at its close. -/
abbrev keepBlocks : List Block := [.tracker, .tally, .grading, .linePort, .consolePort]

theorem State.keepBoard_same (s : State) (b : Board) (w : List HeadView) : s.sameExcept keepBlocks (s.keepBoard b w) := by
  unfold State.keepBoard
  dsimp only
  split
  · split
    · exact (((s.countScanned_same _).mono (by decide)).trans ((State.mapBoard_same _ _ _).mono (by decide))).trans
        ((State.notice_same _ _).mono (by decide))
    · exact ((s.countScanned_same _).mono (by decide)).trans ((State.mapBoard_same _ _ _).mono (by decide))
  · exact (((s.countScanned_same _).mono (by decide)).trans ((State.mapBoard_same _ _ _).mono (by decide))).trans
      ((State.enqueueBoard_same _ _).mono (by decide))

/-- The blocks that assembly closes, misses, settlements and retirements may touch. -/
abbrev workBlocks : List Block := [.tracker, .intake, .grading, .trimmer, .tally, .line, .linePort, .consolePort, .draws]

theorem State.closeBoard_same (s : State) (t : Tag) : s.sameExcept workBlocks (s.closeBoard t).1 := by
  unfold State.closeBoard
  split
  · exact .refl _ s
  · split
    · rename_i b _ _ _ w _ _
      have h1 : s.sameExcept workBlocks (if windowKept w then s.keepBoard b w else s.removeBoard t) := by
        split
        · exact (s.keepBoard_same b w).mono (by decide)
        · exact (s.removeBoard_same t).mono (by decide)
      have h2 : ∀ u : State, u.sameExcept workBlocks (u.noteAssembly t (windowKept w)) := fun u =>
        (u.setCalibrations_same _).mono (by decide)
      have h3 : ∀ u : State, u.sameExcept workBlocks { u with draws := u.draws + 1 } := fun u =>
        (u.shuffle_same ([] : List Work)).mono (by decide)
      exact (h1.trans (h2 _)).trans (h3 _)
    · exact .refl _ s

theorem State.leaveCalibration_same (s : State) (h : Nat) : s.sameExcept [.intake] (s.leaveCalibration h) :=
  (s.setCalibrations_same _).trans (State.mapHead_same _ _ _)

theorem State.retireHead_same (s : State) (h : Nat) (m : Bool) : s.sameExcept workBlocks (s.retireHead h m).1 := by
  have h1 : ∀ (u : State) (f : Head → Head), u.sameExcept workBlocks (u.mapHead h f) := fun u f =>
    (u.mapHead_same h f).mono (by decide)
  have h2 : ∀ u : State, u.sameExcept workBlocks (u.leaveCalibration h).refreshAttention := fun u =>
    ((u.leaveCalibration_same h).mono (by decide)).trans ((State.refreshAttention_same _).mono (by decide))
  have h3 : ∀ (u : State) (r : List Board), u.sameExcept workBlocks (u.setRing r) := fun u r =>
    (u.setRing_same r).mono (by decide)
  have h4 : ∀ u : State, u.sameExcept workBlocks { u with draws := u.draws + 1 } := fun u =>
    (u.shuffle_same ([] : List Work)).mono (by decide)
  exact (((h1 s _).trans (h2 _)).trans (h3 _ _)).trans (h4 _)

theorem State.work_same (s : State) (w : Work) : s.sameExcept workBlocks (s.work w).1 := by
  cases w with
  | close t => exact s.closeBoard_same t
  | closeIfComplete t =>
    simp only [State.work]
    split
    · exact s.closeBoard_same t
    · exact .refl _ s
  | miss h =>
    simp only [State.work, State.missHead]
    split <;> exact (s.mapHead_same _ _).mono (by decide)
  | settle h o =>
    simp only [State.work, State.settleHead]
    cases o
    · exact (((s.leaveCalibration_same h).trans (State.mapHead_same _ _ _)).mono (by decide)).trans
        ((State.refreshAttention_same _).mono (by decide))
    · exact (s.leaveCalibration_same h).mono (by decide)
    · exact (s.leaveCalibration_same h).mono (by decide)
  | retire h m => exact s.retireHead_same h m
  | retired h m lost =>
    simp only [State.work]
    have h1 : s.sameExcept workBlocks (if m then s.notice (.headRetired h) else s) := by
      split
      · exact (s.notice_same _).mono (by decide)
      · exact .refl _ s
    split
    · exact h1.trans ((State.raiseFault_same _ _).mono (by decide))
    · exact h1
  | poisonNotice h t =>
    simp only [State.work, State.considerPoison]
    split
    · exact .refl _ s
    · exact (s.mapHead_same _ _).after (State.notice_same _ _) (by decide) (by decide)
  | closeCalibration serial =>
    have h1 : ∀ u : State, u.sameExcept workBlocks { u with draws := u.draws + 1 } := fun u =>
      (u.shuffle_same ([] : List Work)).mono (by decide)
    have h2 : ∀ (u : State) (l : List Calibration), u.sameExcept workBlocks (u.setCalibrations l) := fun u l =>
      (u.setCalibrations_same l).mono (by decide)
    exact (h2 s _).trans (h1 _)

theorem runWorks_same (n : Nat) (ws : List Work) (s : State) : s.sameExcept workBlocks (runWorks n ws s) := by
  induction n generalizing ws s with
  | zero => cases ws <;> exact .refl _ s
  | succ n ih =>
    cases ws with
    | nil => exact .refl _ s
    | cons w ws => exact (s.work_same w).trans (ih _ _)

/-- All that the works of one event can touch. -/
theorem State.works_same (s : State) (ws : List Work) : s.sameExcept workBlocks (s.works ws) := runWorks_same _ _ _

/-! ### The parts of a lug event -/

/-- The blocks a lug event may touch. -/
abbrev lugBlocks : List Block :=
  [.tracker, .intake, .grading, .patterns, .trimmer, .outfeed, .tally, .line, .linePort, .consolePort, .outputs, .draws]

theorem State.emit_same (s : State) (o : Output) : s.sameExcept [.outputs] (s.emit o) := by
  intro b hb
  cases b <;> first | rfl | simp at hb

theorem State.mapRuns_same (s : State) (p : Run → Bool) (f : Run → Run) : s.sameExcept [.tally] (s.mapRuns p f) :=
  s.setRuns_same _

theorem State.runSwitch_same (s : State) : s.sameExcept [.tally] s.runSwitch := by
  unfold State.runSwitch
  split
  · exact .refl _ s
  · split
    · exact (s.mapRuns_same _ _).trans (State.mapRuns_same _ _ _)
    · exact .refl _ s

theorem State.scanEvent_same (s : State) : s.sameExcept lugBlocks s.scanEvent :=
  ((((s.runSwitch_same.mono (by decide)).trans ((State.setRing_same _ _).mono (by decide))).trans
      ((State.mapRuns_same _ _ _).mono (by decide))).trans ((State.emit_same _ _).mono (by decide))).trans
    ((State.works_same _ _).mono (by decide))

theorem State.goStale_same (s : State) (h : Nat) : s.sameExcept [.intake, .trimmer, .linePort, .consolePort] (s.goStale h) := by
  unfold State.goStale
  split
  · exact (((s.mapHead_same _ _).mono (by decide)).trans ((State.notice_same _ _).mono (by decide))).trans
      ((State.refreshAttention_same _).mono (by decide))
  · exact .refl _ s

theorem State.sendLink_same (s : State) (k : LinkKind) (t : Tag) (body : List Byte) :
    s.sameExcept [.outputs] (s.sendLink k t body) :=
  s.emit_same _

/-- R26: the counters' part of a lug event keeps the length of the head table. -/
@[simp] theorem tickHeads_length (ol : Nat) : ∀ before now : List Head, (tickHeads ol before now).length = now.length
  | [], [] => rfl
  | [], _ :: _ => rfl
  | _ :: _, [] => rfl
  | _ :: bs, _ :: es => congrArg (· + 1) (tickHeads_length ol bs es)

theorem State.tickCounters_same (before : List Head) (s : State) : s.sameExcept lugBlocks (s.tickCounters before) := by
  have h1 : s.sameExcept [.intake]
      { s with intake := { s.intake with heads := tickHeads s.config.ol before s.intake.heads } } := by
    intro b hb
    cases b <;> first | rfl | simp at hb
  exact ((h1.mono (by decide)).trans ((State.shuffle_same _ _).mono (by decide))).trans
    (State.sameExcept.foldl (fun s h => (s.goStale_same h).mono (by decide)) _ _)

theorem State.chooseCalibration_same (s : State) : s.sameExcept lugBlocks s.chooseCalibration := by
  unfold State.chooseCalibration
  dsimp only
  split
  · split
    · exact (((s.emit_same _).mono (by decide)).trans
          (State.sameExcept.foldl (fun s h => (s.mapHead_same h _).mono (by decide)) _ _)).trans
        ((State.setCalibrations_same _ _).mono (by decide))
    · exact .refl _ s
  · exact .refl _ s

theorem State.setOwnership_same (s : State) (o : Ownership) : s.sameExcept [.trimmer] (s.setOwnership o) := by
  intro b hb
  cases b <;> first | rfl | simp at hb

theorem State.setManualPattern_same (s : State) (p : ManualPattern) : s.sameExcept [.trimmer] (s.setManualPattern p) := by
  intro b hb
  cases b <;> first | rfl | simp at hb

theorem State.resolveOwnership_same (s : State) : s.sameExcept attentionBlocks s.resolveOwnership := by
  unfold State.resolveOwnership
  split
  · exact .refl _ s
  · exact .refl _ s
  · exact (s.setOwnership_same _).after (State.reportOwner_same _ _ _) (by decide) (by decide)
  · exact ((((s.setOwnership_same _).trans (State.setManualPattern_same _ _)).mono (by decide)).trans
      ((State.reportOwner_same _ _ _).mono (by decide))).trans (State.clearValueLoss_same _)

theorem State.enqueuePattern_same (s : State) (e : PatternEntry) : s.sameExcept [.patterns, .outfeed] (s.enqueuePattern e) := by
  unfold State.enqueuePattern
  dsimp only
  split <;> intro b hb <;> cases b <;> first | rfl | simp at hb

theorem State.handCommit_same (s : State) (b : Board) (k : Commitment) : s.sameExcept attentionBlocks (s.handCommit b k) := by
  have h1 : s.sameExcept attentionBlocks (s.reportCommit b) := by
    unfold State.reportCommit
    split
    · exact ((s.offer_same _ _ _).trans (State.offer_same _ _ _ _)).mono (by decide)
    · exact (s.offer_same _ _ _).mono (by decide)
  have h2 : ∀ (u : State) (c : Bool) (n : Notice), u.sameExcept attentionBlocks (if c then u.notice n else u) := by
    intro u c n
    split
    · exact (u.notice_same _).mono (by decide)
    · exact .refl _ u
  unfold State.handCommit
  dsimp only
  split
  · exact ((h1.trans (h2 _ _ _)).trans (h2 _ _ _)).trans (State.accountLoss_same _ _ _)
  · exact (h1.trans (h2 _ _ _)).trans (h2 _ _ _)

theorem State.commitBoard_same (s : State) (b : Board) : s.sameExcept lugBlocks (s.commitBoard b) :=
  ((((s.mapBoard_same _ _).mono (by decide)).trans ((State.abandonBoard_same _ _).mono (by decide))).trans
      ((State.enqueuePattern_same _ _).mono (by decide))).trans ((State.handCommit_same _ _ _).mono (by decide))

theorem State.horizonEvent_same (s : State) : s.sameExcept lugBlocks s.horizonEvent := by
  have h1 : s.sameExcept lugBlocks s.resolveOwnership := s.resolveOwnership_same.mono (by decide)
  unfold State.horizonEvent
  dsimp only
  split
  · exact h1
  · split <;> first | exact h1 | exact h1.trans (State.commitBoard_same _ _)

theorem State.sampleSaws_same (s : State) (before : Option Applied) (t : Option Tag) :
    s.sameExcept lugBlocks (s.sampleSaws before t) := by
  have h1 : ∀ o : Outfeed, s.sameExcept [.outfeed] { s with outfeed := o } := by
    intro o b hb
    cases b <;> first | rfl | simp at hb
  exact (((h1 _).mono (by decide)).trans
      (State.sameExcept.foldl (fun s k => (s.notice_same (.sawFault k t)).mono (by decide)) _ _)).trans
    ((State.refreshAttention_same _).mono (by decide))

theorem State.tallyBoard_same (s : State) (b : Board) (o : CutOutcome) : s.sameExcept countBlocks (s.tallyBoard b o) := by
  unfold State.tallyBoard
  split
  · exact (s.mapFigures_same _).mono (by decide)
  · exact s.countAll_same _ _
  · exact .refl _ s

theorem State.outputBin_same (s : State) (n : Option Nat) : s.sameExcept [.outfeed, .outputs] (s.outputBin n) := by
  unfold State.outputBin
  split
  · exact .refl _ s
  · intro b hb
    cases b <;> first | rfl | simp at hb

theorem State.sawLineEvent_same (s : State) (b : Board) : s.sameExcept lugBlocks (s.sawLineEvent b) := by
  have h1 : ∀ (u : State) (l : List PatternEntry), u.sameExcept [.patterns] { u with patterns := l } := by
    intro u l b hb
    cases b <;> first | rfl | simp at hb
  exact (((((s.mapBoard_same _ _).mono (by decide)).trans ((State.tallyBoard_same _ _ _).mono (by decide))).trans
      ((State.outputBin_same _ _).mono (by decide))).trans ((h1 _ _).mono (by decide))).trans
    ((State.mapBoard_same _ _ _).mono (by decide))

theorem State.sawLine_same (s : State) (before : Option Applied) : s.sameExcept lugBlocks (s.sawLine before) := by
  unfold State.sawLine
  split
  · exact s.sampleSaws_same _ _
  · dsimp only
    split
    · exact (s.sampleSaws_same _ _).trans (State.sawLineEvent_same _ _)
    · exact s.sampleSaws_same _ _

theorem State.markerEvent_same (s : State) (b : Board) : s.sameExcept lugBlocks (s.markerEvent b) := by
  have h1 : ∀ (u : State) (o : Option (List Byte)),
      u.sameExcept lugBlocks (match o with | some text => u.emit (.marker text) | none => u) := by
    intro u o
    split
    · exact (u.emit_same _).mono (by decide)
    · exact .refl _ u
  have h2 : ∀ (u : State) (c : Bool) (k : Byte) (body : List Byte),
      u.sameExcept lugBlocks (if c then u.offer .line k body else u) := by
    intro u c k body
    split
    · exact (u.offer_same _ _ _).mono (by decide)
    · exact .refl _ u
  exact ((((s.mapBoard_same _ _).mono (by decide)).trans (h1 _ _)).trans (h2 _ _ _ _)).trans
    ((State.removeBoard_same _ _).mono (by decide))

theorem State.marker_same (s : State) : s.sameExcept lugBlocks s.marker := by
  unfold State.marker
  split
  · exact .refl _ s
  · split
    · exact s.markerEvent_same _
    · exact .refl _ s

theorem State.outfeedPart_same (s : State) (before : Option Applied) : s.sameExcept lugBlocks (s.outfeedPart before) := by
  have h1 : ∀ (u : State) (o : Outfeed), u.sameExcept [.outfeed] { u with outfeed := o } := by
    intro u o b hb
    cases b <;> first | rfl | simp at hb
  exact ((s.sawLine_same before).trans (State.marker_same _)).trans ((h1 _ _).mono (by decide))

theorem State.closeRun_same (c : CloseCause) (s : State) (r : Run) : s.sameExcept countBlocks (s.closeRun c r) :=
  (s.mapRuns_same _ _).after (State.offer_same _ _ _ _) (by decide) (by decide)

theorem State.closeRuns_same (s : State) (c : CloseCause) (p : Run → Bool) : s.sameExcept countBlocks (s.closeRuns c p) :=
  State.sameExcept.foldl (State.closeRun_same c) _ s

theorem State.lugPart_same (before s : State) (p : LugPart) : s.sameExcept lugBlocks (before.lugPart s p) := by
  cases p
  · exact s.scanEvent_same
  · exact s.tickCounters_same _
  · exact s.chooseCalibration_same
  · exact (s.works_same _).mono (by decide)
  · exact s.horizonEvent_same
  · exact s.outfeedPart_same _
  · exact (s.closeRuns_same _ _).mono (by decide)

/-- All that a lug event can touch, whatever the order of its parts. -/
theorem State.lugEventWith_same (s : State) (eye : Bool) (order : List LugPart) :
    s.sameExcept lugBlocks (s.lugEventWith eye order) := by
  have h1 : s.sameExcept [.tracker] (s.advance eye) := by
    intro b hb
    cases b <;> first | rfl | simp at hb
  exact (h1.mono (by decide)).trans (State.sameExcept.foldl (State.lugPart_same _) order _)

end Sys2Proof.Machine
end

