-- ==== Sys2Proof/Laws/PerInstr.lean ====
section
/-! SUPPORT. Statements made per command: a request command is well-formed exactly when its port's set holds its kind
(R170, R179). -/

namespace Sys2Proof.Laws.RequestPorts

open Sys2Proof Sys2Proof.Machine

/-- A command that takes a request of kind k from port p is well-formed exactly when k is in the port's request set. -/
def Statement (i : Instr) : Prop :=
  ∀ p k, requestOf i = some (p, k) → i.wellFormed = inRequestSet p k

theorem powerOn : Statement .powerOn := by
  intro p k h
  cases h

theorem resetPin : Statement .resetPin := by
  intro p k h
  cases h

theorem lugEvent (eyeLoaded : Bool) (feedback : SawSet) (markerReady : Bool) : Statement (.lugEvent eyeLoaded feedback markerReady) := by
  intro p k h
  cases h

theorem homePulse : Statement .homePulse := by
  intro p k h
  cases h

theorem zoneLinkFrameDiscard (bytes : List Byte) : Statement (.zoneLinkFrameDiscard bytes) := by
  intro p k h
  cases h

theorem zoneReport (sender : Byte) (serial : Tag) (frameOk : Bool) (body : List Byte) : Statement (.zoneReport sender serial frameOk body) := by
  intro p k h
  cases h

theorem calResult (sender : Byte) (serial : Tag) (frameOk : Bool) (body : List Byte) : Statement (.calResult sender serial frameOk body) := by
  intro p k h
  cases h

theorem logBegin (serial : Tag) (frameOk : Bool) (body : List Byte) : Statement (.logBegin serial frameOk body) := by
  intro p k h
  cases h

theorem logSamples (serial : Tag) (frameOk : Bool) (body : List Byte) : Statement (.logSamples serial frameOk body) := by
  intro p k h
  cases h

theorem logEnd (serial : Tag) (frameOk : Bool) (body : List Byte) : Statement (.logEnd serial frameOk body) := by
  intro p k h
  cases h

theorem evaluationComplete (engine : Nat) : Statement (.evaluationComplete engine) := by
  intro p k h
  cases h

theorem regradeComplete (engine : Nat) : Statement (.regradeComplete engine) := by
  intro p k h
  cases h

theorem silenceTimerExpiry : Statement .silenceTimerExpiry := by
  intro p k h
  cases h

theorem headCalDue (head : Nat) : Statement (.headCalDue head) := by
  intro p k h
  cases h

theorem headStale (head : Nat) : Statement (.headStale head) := by
  intro p k h
  cases h

theorem frameReceived (port : Port) (kind : Byte) (tag : Byte) (body : List Byte) : Statement (.frameReceived port kind tag body) := by
  intro p k h
  cases h

theorem interByteGapTimeout (port : Port) : Statement (.interByteGapTimeout port) := by
  intro p k h
  cases h

theorem frameSent (port : Port) : Statement (.frameSent port) := by
  intro p k h
  cases h

theorem partResetComplete : Statement .partResetComplete := by
  intro p k h
  cases h

theorem unknownKind (port : Port) : Statement (.unknownKind port) := by
  intro p k h
  cases h

theorem hello (port : Port) : Statement (.hello port) := by
  intro p k h
  cases h
  cases port <;> rfl

theorem status (port : Port) (markerReady : Bool) : Statement (.status port markerReady) := by
  intro p k h
  cases h
  cases port <;> rfl

theorem boardQuery (port : Port) : Statement (.boardQuery port) := by
  intro p k h
  cases h
  cases port <;> rfl

theorem override (port : Port) : Statement (.override port) := by
  intro p k h
  cases h
  cases port <;> rfl

theorem partReset (port : Port) : Statement (.partReset port) := by
  intro p k h
  cases h
  cases port <;> rfl

theorem lineConfig (port : Port) : Statement (.lineConfig port) := by
  intro p k h
  cases h
  cases port <;> rfl

theorem lineStart (port : Port) : Statement (.lineStart port) := by
  intro p k h
  cases h
  cases port <;> rfl

theorem lineResume (port : Port) : Statement (.lineResume port) := by
  intro p k h
  cases h
  cases port <;> rfl

theorem lineReset (port : Port) : Statement (.lineReset port) := by
  intro p k h
  cases h
  cases port <;> rfl

theorem bankOpen (port : Port) : Statement (.bankOpen port) := by
  intro p k h
  cases h
  cases port <;> rfl

theorem tableWindow (port : Port) : Statement (.tableWindow port) := by
  intro p k h
  cases h
  cases port <;> rfl

theorem tableData (port : Port) : Statement (.tableData port) := by
  intro p k h
  cases h
  cases port <;> rfl

theorem bankClose (port : Port) : Statement (.bankClose port) := by
  intro p k h
  cases h
  cases port <;> rfl

theorem tableRead (port : Port) : Statement (.tableRead port) := by
  intro p k h
  cases h
  cases port <;> rfl

theorem runStart (port : Port) : Statement (.runStart port) := by
  intro p k h
  cases h
  cases port <;> rfl

theorem runEnd (port : Port) : Statement (.runEnd port) := by
  intro p k h
  cases h
  cases port <;> rfl

theorem runFree (port : Port) : Statement (.runFree port) := by
  intro p k h
  cases h
  cases port <;> rfl

theorem tallyRead (port : Port) : Statement (.tallyRead port) := by
  intro p k h
  cases h
  cases port <;> rfl

theorem logQuery (port : Port) : Statement (.logQuery port) := by
  intro p k h
  cases h
  cases port <;> rfl

theorem reclaimTrimmer (port : Port) : Statement (.reclaimTrimmer port) := by
  intro p k h
  cases h
  cases port <;> rfl

theorem sawState (port : Port) : Statement (.sawState port) := by
  intro p k h
  cases h
  cases port <;> rfl

theorem binState (port : Port) : Statement (.binState port) := by
  intro p k h
  cases h
  cases port <;> rfl

theorem headRetire (port : Port) : Statement (.headRetire port) := by
  intro p k h
  cases h
  cases port <;> rfl

theorem headRestore (port : Port) : Statement (.headRestore port) := by
  intro p k h
  cases h
  cases port <;> rfl

theorem headClear (port : Port) : Statement (.headClear port) := by
  intro p k h
  cases h
  cases port <;> rfl

theorem noticeMask (port : Port) : Statement (.noticeMask port) := by
  intro p k h
  cases h
  cases port <;> rfl

theorem reportSelect (port : Port) : Statement (.reportSelect port) := by
  intro p k h
  cases h
  cases port <;> rfl

theorem drain (port : Port) : Statement (.drain port) := by
  intro p k h
  cases h
  cases port <;> rfl

theorem takeTrimmer (port : Port) : Statement (.takeTrimmer port) := by
  intro p k h
  cases h
  cases port <;> rfl

theorem releaseTrimmer (port : Port) : Statement (.releaseTrimmer port) := by
  intro p k h
  cases h
  cases port <;> rfl

theorem manualPattern (port : Port) : Statement (.manualPattern port) := by
  intro p k h
  cases h
  cases port <;> rfl

theorem attentionClear (port : Port) : Statement (.attentionClear port) := by
  intro p k h
  cases h
  cases port <;> rfl

theorem portByteReceived (port : Port) (byte : Byte) : Statement (.portByteReceived port byte) := by
  intro p k h
  cases h

theorem noValidStopBit (port : Port) : Statement (.noValidStopBit port) := by
  intro p k h
  cases h

end Sys2Proof.Laws.RequestPorts
end

