-- ==== Sys2Proof/Tests/Slice0.lean ====
section
/-! SUPPORT. The model's own tests: a refused term for each check of WellFormed; worked examples and tables of spec/ on
small states; and for every statement with hypotheses a state and operands that meet them (the `witness_…` theorems).
The tests are elaborated one after another: side by side, each would hold a thread while the kernel evaluates another. -/

namespace Sys2Proof.Tests

open Sys2Proof Sys2Proof.Machine

set_option Elab.async false

/-! ### Well-formedness: each check refuses an ill-formed term -/

theorem test_wf_head_zero : (Instr.headCalDue 0).wellFormed = false := by decide +kernel
theorem test_wf_head_thirteen : (Instr.headStale 13).wellFormed = false := by decide +kernel
theorem test_wf_head_twelve : (Instr.headStale 12).wellFormed = true := by decide +kernel
theorem test_wf_engine : (Instr.evaluationComplete 4).wellFormed = false ∧ (Instr.regradeComplete 0).wellFormed = false := by
  decide +kernel
theorem test_wf_sender : (Instr.zoneReport 13#8 0#16 true []).wellFormed = false := by decide +kernel
theorem test_wf_link_body : (Instr.logSamples 0#16 true (List.replicate 256 0#8)).wellFormed = false := by decide +kernel
theorem test_wf_port_body : (Instr.frameReceived .line 1#8 0#8 (List.replicate 241 0#8)).wellFormed = false := by decide +kernel
theorem test_wf_port_body_240 : (Instr.frameReceived .line 1#8 0#8 (List.replicate 240 0#8)).wellFormed = true := by decide +kernel
theorem test_wf_line_request_on_console : (Instr.runFree .console).wellFormed = false := by decide +kernel
theorem test_wf_console_request_on_line : (Instr.takeTrimmer .line).wellFormed = false := by decide +kernel

/-! ### No word spells a command; the frames of R179 and R180 do -/

theorem test_no_row_has_bits : decodeTableWord 16 0x1234 = none := by decide +kernel

/-- R17's check word is the CRC-16 whose value over "123456789" is 0x29B1 (the polynomial and initial value R17 gives). -/
theorem test_crc : crc16 [0x31#8, 0x32#8, 0x33#8, 0x34#8, 0x35#8, 0x36#8, 0x37#8, 0x38#8, 0x39#8] = 0x29B1#16 := by decide +kernel

theorem test_link_frame_read :
    decodeLinkFrame (encodeLinkFrame 3#8 0x11#8 0x0102#16 [1#8, 0xFF#8, 0xFF#8, 0#8, 0#8]) =
      .zoneReport 3#8 0x0102#16 true [1#8, 0xFF#8, 0xFF#8, 0#8, 0#8] := by
  decide +kernel

/-- R17: a frame whose frame check fails is corrupt; one whose header check fails is discarded. -/
theorem test_link_frame_corrupt :
    decodeLinkFrame ((encodeLinkFrame 3#8 0x12#8 7#16 [0#8]).take 9 ++ [0#8]) = .calResult 3#8 7#16 false [0#8] ∧
      decodeLinkFrame (4#8 :: (encodeLinkFrame 3#8 0x12#8 7#16 [0#8]).drop 1) =
        .zoneLinkFrameDiscard (4#8 :: (encodeLinkFrame 3#8 0x12#8 7#16 [0#8]).drop 1) := by
  decide +kernel

/-! ### Small states -/

/-- The state a command answers with; reset's for any other outcome. -/
def after (o : Host.Outcome State Fault Refusal) : State :=
  match o with
  | .next s => s
  | .fault _ => State.reset
  | .refused _ => State.reset

/-- A state with a request waiting on a port. -/
def asking (s : State) (p : Port) (kind : Byte) (body : List Byte) : State :=
  s.setPort p { s.port p with inbound := some { kind := kind, tag := 9#8, body := body } }

def request (kind : Byte) (body : List Byte) : Frame := { kind := kind, tag := 9#8, body := body }

/-- Whatever waits with a place free for its reply can be asked. -/
theorem asking_asks (s : State) (p : Port) (kind : Byte) (body : List Byte) (h : (s.port p).outbound.length < places p) :
    (asking s p kind body).asks p (request kind body) := by
  cases p <;> exact ⟨rfl, h⟩

/-- R157's limits met: three heads, four saws, D = 8, H = 3, M = 1, AW = 2. -/
def params : LineParams :=
  { hn := 3, zp := 610, sn := 4, sp := 610, so := 30, d := 8, h := 3, m := 1, aw := 2, hd := 0, k := 24, ci := 100,
    ol := 10, ct := 500, vm := 100 }

/-- A running line with three ACTIVE heads and an empty ring. -/
def running : State :=
  { State.reset with
    line := { State.reset.line with state := .running, config := params }
    intake :=
      { heads := List.replicate 3 { absentHead with state := .active, counter := 5 } ++ List.replicate 9 absentHead
        calibrations := [] } }

/-- A window in which the heads of a list are expected, with no answer yet. -/
def windowOf (l : List Nat) : List HeadView :=
  (List.range 12).map fun k => { blankView with expected := decide (k + 1 ∈ l) }

/-- A record. -/
def board (t : Tag) (state : BoardState) : Board :=
  { tag := t, state := state, run := none, bank := none, number := none, length := some 1500, overlength := false
    defects := [], marks := [.good, .good, .good], tracking := false, advisory := none, override := none, decision := none
    stamp := none, sampled := none, unmarked := false
    window := if state = .scanning then some (windowOf [1, 2]) else none }

/-- A running line whose lug serial is 20, with records in its ring. -/
def ring (bs : List Board) : State := { running with tracker := { running.tracker with serial := 20#16, ring := bs } }

def passDecision : FinalDecision :=
  { what := .pass, value := 0, source := .auto, bin := some 0, flags := noFlags }

/-- A run on bank A. -/
def runOf (state : RunState) (stop : Option Tag) : Run :=
  { key := 0, id := 7, bank := .a, thickness := 25, width := 150, state := state, startTag := 10#16, endTag := stop
    counters := List.replicate 133 { value := 0, saturated := false } }

/-- A state with one run in its table. -/
def withRun (s : State) (state : RunState) (stop : Option Tag) : State :=
  { s with tally := { s.tally with runs := [runOf state stop], logRun := some 0, nextKey := 1 } }

/-- The counters of the runs that are not 0. -/
def counted (s : State) : List (Nat × Nat) :=
  s.tally.runs.flatMap fun r =>
    ((List.range 133).filter fun k => (r.counter k).value != 0).map fun k => (k, (r.counter k).value)

/-- The kinds and bodies of the frames that wait at the line port. -/
def lineFrames (s : State) : List (Byte × List Byte) := s.linePort.outbound.map fun f => (f.kind, f.body)

/-- A run with one counter at a value, its flag clear. -/
def nearTop (s : State) (k v : Nat) : State :=
  { s with
    tally :=
      { s.tally with
        runs := s.tally.runs.map fun r => { r with counters := r.counters.set k { value := v, saturated := false } } } }

/-! ### Log scaling: section 3.3's worked figures -/

/-- R43 to R46 on a span of five samples of 300 mm: 500 mm, 35 litres. -/
theorem test_log_litres :
    scale [0, 300, 300, 300, 300, 300, 0] = some { length := 500, sed := 300, led := 300, litres := 35, suspect := false } := by
  decide +kernel

/-- R44: a run of exactly 3 held samples does not set SUSPECT; a run of 4 does. -/
theorem test_log_held :
    ((scale [9, 0, 0, 0, 9]).map fun z => z.suspect) = some false ∧
      ((scale [9, 0, 0, 0, 0, 9]).map fun z => z.suspect) = some true := by
  decide +kernel

/-- R43: four span samples are debris; a sample above 1500 is clamped and sets SUSPECT. -/
theorem test_log_debris_and_clamp :
    scale [0, 1, 1, 1, 1, 0] = none ∧
      scale [1501, 1, 1, 1, 1] = some { length := 500, sed := 1, led := 1500, litres := 177, suspect := true } := by
  decide +kernel

theorem witness_LogFiguresOfASpan :
    ([0, 7, 0, 9, 9, 9, 0].map fun d => min 1500 d) =
        List.replicate 1 0 ++ [7, 0, 9, 9, 9] ++ List.replicate 1 0 ∧
      [7, 0, 9, 9, 9].head? ≠ some 0 ∧ [7, 0, 9, 9, 9].getLast? ≠ some 0 ∧
      ([7, 7, 9, 9, 9] : List Nat).length = ([7, 0, 9, 9, 9] : List Nat).length ∧
      ∀ k (_ : k < [7, 0, 9, 9, 9].length),
        [7, 7, 9, 9, 9].getD k 0 = if [7, 0, 9, 9, 9].getD k 0 = 0 then [7, 7, 9, 9, 9].getD (k - 1) 0
          else [7, 0, 9, 9, 9].getD k 0 := by
  decide +kernel

/-! ### Steps, resets -/

theorem witness_TimeDrivenStepsAtZero :
    State.reset.pending = [] ∧ State.reset.trimmer.timer = none ∧
      ({ running with trimmer := { running.trimmer with timer := some 1 } }).trimmer.timer = some 1 ∧
      ({ running with trimmer := { running.trimmer with timer := some 2 } }).trimmer.timer = some 2 ∧
      running.intake.heads[0]? = some { absentHead with state := .active, counter := 5 } ∧
      ({ running with
          intake :=
            { running.intake with
              heads := [{ absentHead with state := .active }, { absentHead with state := .pendingCal }] } }).intake.heads[1]? =
        some { absentHead with state := .pendingCal } := by
  decide +kernel

/-- R27: heads on their last lug, others on the way, and one that the event itself made ACTIVE. -/
theorem test_counters_part :
    let heads (l : List (HeadState × Nat)) : List Head :=
      l.map fun x => { absentHead with state := x.1, counter := x.2 }
    ((tickHeads 10 (heads [(.active, 1), (.pendingCal, 1), (.pendingCal, 2), (.active, 2), (.stale, 0)])
          (heads [(.active, 1), (.pendingCal, 1), (.active, 100), (.active, 2), (.stale, 0)])).map
        fun e => (e.state, e.counter)) =
      [(.pendingCal, 10), (.pendingCal, 0), (.active, 100), (.active, 1), (.stale, 0)] ∧ 1 ≤ running.line.config.ol := by
  decide +kernel

/-- R163: the reset is made when both queues are empty, and not before. -/
theorem witness_PowerOnAndResetPinRestart :
    let s (l c : List Frame) : State :=
      { running with
        line := { running.line with resetting := true }
        linePort := { running.linePort with outbound := l }
        consolePort := { running.consolePort with outbound := c } }
    let f : Frame := { kind := 0x42#8, tag := 0#8, body := [] }
    ((s [] []).line.resetting = true ∧ (s [] []).linePort.outbound = [] ∧ (s [] []).consolePort.outbound = []) ∧
      (after (exec .partResetComplete (s [] []))).line.state = .configuring ∧
      after (exec .partResetComplete (s [] [f])) = s [] [f] ∧ after (exec .partResetComplete (s [f] [])) = s [f] [] := by
  decide +kernel

theorem witness_PartResetIsTakenAndCompleted :
    (asking running .line 0x05#8 []).asks .line (request 0x05#8 []) ∧
      (asking running .line 0x05#8 [1#8]).asks .line (request 0x05#8 [1#8]) ∧
      (after (exec (.partReset .line) (asking running .line 0x05#8 []))).line.resetting = true ∧
      (after (exec (.partReset .line) (asking running .line 0x05#8 []))).linePort.outbound =
        [{ kind := 0x85#8, tag := 9#8, body := [0#8] }] := by
  exact ⟨asking_asks _ _ _ _ (by decide +kernel), asking_asks _ _ _ _ (by decide +kernel), by decide +kernel, by decide +kernel⟩

/-! ### Encoder pulses -/

theorem witness_LugEventAdvancesTheLine :
    running.line.state = .running ∧ running.line.resetting = false ∧
      ({ running with line := { running.line with state := .stopped } }).line.state = .stopped := by
  decide +kernel

/-- R1, R2: the serial wraps, and the record of the new serial is made in STOPPED as in RUNNING. -/
theorem test_lug_event_wraps :
    let s : State :=
      { running with tracker := { running.tracker with serial := 0xFFFF#16 }, line := { running.line with state := .stopped } }
    (s.lugEventWith true lugParts).tracker.serial = 0#16 ∧
      ((s.lugEventWith true lugParts).tracker.ring.map fun b => b.tag) = [0#16] ∧
      (s.lugEventWith true lugParts).tracker.eye = some { loaded := true, serial := 1#16 } := by
  decide +kernel

/-- R10, R18, R144: the switch of runs at the start tag, the OPEN run's end tag at the scan event, an empty expected set. -/
theorem test_scan_event :
    let s (runs : List Run) : State := { ring [] with tally := { running.tally with runs := runs } }
    let next : Run := { runOf .pending none with key := 1, id := 8, bank := .b, startTag := 20#16 }
    let runsOf (u : State) := u.tally.runs.map fun r => (r.id, r.state, r.endTag)
    let records (u : State) := u.tracker.ring.map fun b => (b.tag, b.run, b.bank)
    let switched := running.lugPart (s [runOf .isOpen none, next]) .scan
    let ended := running.lugPart (s [runOf .isOpen (some 20#16)]) .scan
    let retired : State :=
      { ring [] with intake := { running.intake with heads := List.replicate 12 { absentHead with state := .retired } } }
    (runsOf switched = [(7, .closing, some 19#16), (8, .isOpen, none)] ∧ records switched = [(20#16, some 8, some .b)] ∧
        switched.outputs = [.link (sentFrame .lugMark 20#16 [])]) ∧
      (runsOf ended = [(7, .closing, some 20#16)] ∧ records ended = [(20#16, some 7, some .a)]) ∧
      records (running.lugPart (s [runOf .isOpen none, { next with startTag := 21#16 }]) .scan) =
        [(20#16, some 7, some .a)] ∧
      records (running.lugPart retired .scan) = [] := by
  decide +kernel

/-- R23, R31: position AW = 2 at serial 20: a record with heads 1 and 2 missing, and no SCANNING record there. -/
theorem test_window_part :
    let s := ring [board 18#16 .scanning]
    ((s.tracker.ring.map fun x => x.tag).Nodup ∧ (windowOf [1, 2]).length = 12 ∧
        (board 18#16 .scanning).window = some (windowOf [1, 2]) ∧
        s.tracker.serial - BitVec.ofNat 16 s.line.config.aw = 18#16 ∧ (s.head 1).misses < 2 ∧ (s.head 2).misses < 2) ∧
      running.lugPart (ring [board 19#16 .scanning]) .window = { ring [board 19#16 .scanning] with draws := 1 } := by
  decide +kernel

theorem witness_HomePulseChecksTheCount :
    running.tracker.synced = false ∧
      (let s : State := { running with tracker := { running.tracker with synced := true, homeCount := 23 } }
      s.tracker.synced = true ∧ s.line.config.k ≠ 0 ∧ s.tracker.homeCount ≠ s.line.config.k ∧
        (after (exec .homePulse s)).line.state = .stopped ∧ (after (exec .homePulse s)).consolePort.outbound =
          [{ kind := 0x49#8, tag := 0#8, body := [0#8, 0#8, 0#8, 1#8] }]) ∧
      (let s : State := { running with tracker := { running.tracker with synced := true, homeCount := 24 } }
      s.tracker.homeCount = s.line.config.k) ∧
      State.reset.line.state = .configuring := by
  decide +kernel

theorem witness_ReceiversDiscardSilently :
    running.linePort.rx.state = .hunting ∧ (0x00#8 : Byte) ≠ 0xA5#8 ∧
      240 < (0xF1#8 : Byte).toNat + 256 * (0#8 : Byte).toNat ∧ ¬240 < (0xF0#8 : Byte).toNat + 256 * (0#8 : Byte).toNat ∧
      ([0#8, 0#8, 1#8, 9#8] : List Byte).length = 4 + halfAt [0#8, 0#8, 1#8, 9#8] 0 ∧
      [0#8, 0#8] ≠ checkBytes [0#8, 0#8, 1#8, 9#8] := by
  decide +kernel

/-! ### The zone link -/

/-- A good report: a board present, ending 200 mm into the zone, with no item. -/
def goodBody : List Byte := [1#8, 200#8, 0#8, 0#8, 0#8]

theorem witness_GoodZoneReportIsTaken :
    let s := ring [board 20#16 .scanning]
    (parseZoneReport goodBody).isSome = true ∧ s.line.state = .running ∧ s.line.resetting = false ∧
      (s.head 1).state ≠ .absent ∧ 1 ≤ s.line.config.hn ∧ (s.tracker.ring.map fun x => x.tag).Nodup ∧
      (board 20#16 .scanning).window = some (windowOf [1, 2]) ∧ (viewOf (windowOf [1, 2]) 1).expected = true ∧
      (viewOf (windowOf [1, 2]) 1).outcome = .none ∧ (viewOf (windowOf [1, 2]) 2).expected = true ∧
      (viewOf (windowOf [1, 2]) 2).outcome = .none ∧ board 20#16 .scanning ∈ s.tracker.ring ∧
      ((after (exec (.zoneReport 1#8 20#16 true goodBody) s)).tracker.ring.map fun b =>
        b.window.map fun w => ((viewOf w 1).outcome, (viewOf w 1).endPos)) = [some (.good, some 200)] ∧
      (after (exec (.zoneReport 3#8 20#16 true goodBody) s)) = s := by
  decide +kernel

/-- R19, R23, R25: the last awaited report closes the record, which has no run; R30: the outcome held for its serial is
settled, as DISTURBED where the record is kept. -/
theorem test_last_report_closes :
    let s := ring [{ board 20#16 .scanning with window := some (windowOf [2]) }]
    let held : State :=
      { s with
        intake :=
          { heads := { absentHead with state := .stale, membership := some 20#16 } :: running.intake.heads.tail
            calibrations := [{ serial := 20#16, members := [{ head := 1, outcome := some .good }], kept := none }] } }
    let emptyBody : List Byte := [0#8, 0xFF#8, 0xFF#8, 0#8, 0#8]
    let closed (u : State) (body : List Byte) : State := after (exec (.zoneReport 2#8 20#16 true body) u)
    ((parseZoneReport emptyBody).isSome = true ∧
        ∀ k, k < 13 → k ≠ 2 → (viewOf (windowOf [2]) k).expected = false) ∧
      (((closed s goodBody).tracker.ring.map fun b => (b.state, b.length, b.advisory)) =
          [(.decided, some 810, some (.fallback .noRun))] ∧
        (closed s goodBody).tally.unattributed.scanned = 1) ∧
      (((closed held goodBody).head 1).state = .stale ∧ ((closed held goodBody).head 1).membership = none) ∧
      ((closed held emptyBody).head 1).state = .active ∧ (closed held emptyBody).tracker.ring = [] := by
  decide +kernel

theorem witness_ItemsAreAdmittedInOrder :
    ([] : List Defect).length ≤ 40 ∧
      (let z : ZoneBody :=
        { present := true, endPos := none, truncated := false
          items := [{ kind := 0, start := 609, stop := 900, size := 10, severity := 3, faces := 0#4 },
            { kind := 6, start := 1, stop := 2, size := 1, severity := 1, faces := 0#4 },
            { kind := 1, start := 610, stop := 620, size := 1, severity := 1, faces := 0#4 }] }
      ((admitItems 610 1 [] z).items.map fun d => d.start) = [609] ∧ (admitItems 610 1 [] z).truncated = true ∧
        (admitItems 610 1 [] z).overflow = false) := by
  decide +kernel

/-- R21: with 39 items held one joins, the first of the zone, and the next overflows it. -/
theorem test_items_join_in_order :
    let item (start : Nat) : ZoneItem := { kind := 2, start := start, stop := start + 1, size := 0, severity := 0, faces := 0#4 }
    let held : List Defect :=
      List.replicate 39 { kind := .knot, start := 1, stop := 2, size := 3, severity := 1, faces := 0#4, source := 1 }
    let z : ZoneBody := { present := true, endPos := none, truncated := false, items := [item 609, item 1219, item 610] }
    ((admitItems 610 2 held z).items.drop 39).map (fun d => (d.kind, d.start, d.source)) = [(.split, 1219, 2)] ∧
      (admitItems 610 2 held z).overflow = true ∧ (admitItems 610 2 held z).truncated = false := by
  decide +kernel

theorem witness_CorruptZoneReportIsAnswered :
    let s := ring [board 20#16 .scanning]
    let again (o : HeadOutcome) : State :=
      ring [{ board 20#16 .scanning with window := some ((windowOf [1, 2]).modify 0 fun v => { v with outcome := o }) }]
    (after (exec (.zoneReport 1#8 20#16 false []) s)).outputs = [.link (sentFrame .resend 20#16 [1#8])] ∧
      (again .resendSent).head 1 = { absentHead with state := .active, counter := 5 } ∧
      (after (exec (.zoneReport 1#8 20#16 false []) (again .resendSent))).linePort.outbound =
        [{ kind := 0x48#8, tag := 0#8, body := [2#8, 1#8, 20#8, 0#8, 0xFF#8] }] ∧
      ((after (exec (.zoneReport 1#8 20#16 false []) (again .resendSent))).head 1).misses = 1 ∧
      after (exec (.zoneReport 1#8 20#16 false []) (again .good)) = again .good ∧
      after (exec (.zoneReport 1#8 20#16 true [0#8]) (again .poison)) = again .poison := by
  decide +kernel

/-- R180, R182, R187: bodies written out by the tables, each field with a value of its own. -/
theorem test_operand_forms :
    parseZoneReport ([1#8, 2#8, 1#8, 0#8, 1#8] ++ [3#8, 4#8, 5#8, 6#8, 7#8, 8#8, 9#8, 10#8, 0xF5#8]) =
        some
          { present := true, endPos := some 0x0102, truncated := false
            items := [{ kind := 3, start := 0x0504, stop := 0x0706, size := 0x0908, severity := 10, faces := 5#4 }] } ∧
      parseZoneReport [1#8, 0xFF#8, 0xFF#8, 2#8, 0#8] = none ∧
      parseStart [1#8, 2#8, 1#8, 3#8, 0#8, 4#8, 1#8, 0#8, 9#8, 8#8] =
        some { id := 0x0201, bank := .b, thickness := 3, width := 0x0104, start := some 0x0809#16 } ∧
      parseStart [1#8, 2#8, 0#8, 3#8, 0#8, 4#8, 1#8, 1#8] =
        some { id := 0x0201, bank := .a, thickness := 3, width := 0x0104, start := none } ∧
      parseStart [1#8, 2#8, 0#8, 3#8, 0#8, 4#8, 1#8, 0#8] = none ∧
      parseEnd [1#8, 2#8, 0#8, 9#8, 8#8] = some { id := 0x0201, stop := some 0x0809#16 } ∧
      parsePattern [0#8, 3#8, 5#8, 9#8] = some (.piece 3 5 .ungraded) ∧ parsePattern [0#8, 3#8, 5#8, 10#8] = none ∧
      parseOverride [1#8, 2#8, 2#8, 3#8, 5#8, 9#8] = some (.place (.setBoth 3 5 9)) ∧
      parseOverride [1#8, 2#8, 0#8, 10#8] = none ∧ parseOverride [1#8, 2#8, 6#8] = none := by
  decide +kernel

/-- R32: the third miss takes the head out of the record. R23: a POISON that completes the expected set closes it. -/
theorem test_third_miss_and_completing_poison :
    let s (misses : Nat) (w : List Nat) : State :=
      { ring [{ board 20#16 .scanning with
          window := some ((windowOf w).modify 0 fun v => { v with outcome := .resendSent }) }] with
        intake :=
          { running.intake with
            heads := running.intake.heads.modify 0 fun e => { e with misses := misses, latch := true } } }
    let third := after (exec (.zoneReport 1#8 20#16 false []) (s 2 [1, 2]))
    let completing := after (exec (.zoneReport 1#8 20#16 false []) (s 1 [1]))
    (s 2 [1, 2]).intake.heads[1 - 1]? = some { absentHead with state := .active, counter := 5, misses := 2, latch := true } ∧
      ((third.head 1).state = .retired ∧ (third.tracker.ring.map fun b => b.window) = [some (windowOf [2])] ∧
        (third.linePort.outbound.map fun f => f.body) = [[0#8, 1#8, 0xFF#8, 0xFF#8, 0xFF#8], [2#8, 1#8, 20#8, 0#8, 0xFF#8]]) ∧
      ((completing.head 1).misses = 2 ∧
        (completing.tracker.ring.map fun b => (b.state, b.length, b.advisory)) =
          [(.decided, some 610, some (.fallback .poison))]) := by
  decide +kernel

/-- A running line with an open calibration of head 1 for serial 20. -/
def calibrating (kept : Option Bool) : State :=
  { running with
    intake :=
      { heads := { absentHead with state := .stale, membership := some 20#16 } :: running.intake.heads.tail
        calibrations := [{ serial := 20#16, members := [{ head := 1, outcome := none }], kept := kept }] }
    trimmer := { running.trimmer with attention := { calOverdue := true, sawFault := false, valueLoss := false } } }

theorem witness_CalResultIsHeldOrSettled :
    ((calibrating none).intake.calibrations.map fun x => x.serial).Nodup ∧
      { head := 1, outcome := none } ∈ [({ head := 1, outcome := none } : Member)] ∧
      (after (exec (.calResult 1#8 20#16 true [0#8]) (calibrating none))).intake.calibrations =
        [{ serial := 20#16, members := [{ head := 1, outcome := some .good }], kept := none }] ∧
      (after (exec (.calResult 1#8 20#16 true [0#8]) (calibrating (some false)))).head 1 =
        { state := .active, counter := 100, misses := 0, latch := false, membership := none } ∧
      ((after (exec (.calResult 1#8 20#16 true [0#8]) (calibrating (some true)))).head 1).state = .stale ∧
      ((after (exec (.calResult 1#8 20#16 true [2#8]) (calibrating (some false)))).head 1).misses = 1 := by
  decide +kernel

/-- R28: an empty lug of serial 22 and two due heads, one of them in another calibration: CALIBRATE with bit 1 set. -/
theorem test_calibrate_part :
    let s (loaded : Bool) : State :=
      { running with
        tracker := { running.tracker with eye := some { loaded := loaded, serial := 22#16 } }
        intake :=
          { heads :=
              [{ absentHead with state := .stale }, { absentHead with state := .stale, membership := some 21#16 }] ++
                List.replicate 10 absentHead
            calibrations := [] } }
    let t := running.lugPart (s false) .calibrate
    (s false).intake.heads.length = 12 ∧
      t.intake.calibrations = [{ serial := 22#16, members := [{ head := 1, outcome := none }], kept := none }] ∧
      t.outputs = [.link (sentFrame .calibrate 22#16 [2#8, 0#8])] ∧ (t.head 1).membership = some 22#16 ∧
      running.lugPart (s true) .calibrate = s true := by
  decide +kernel

/-- A running line at serial 20 with a calibration of head 1 for serial 18, at position AW = 2, and records in its ring. -/
def calibratingAt (o : Option CalOutcome) (bs : List Board) : State :=
  { ring bs with
    intake :=
      { heads := { absentHead with state := .stale, membership := some 18#16 } :: running.intake.heads.tail
        calibrations := [{ serial := 18#16, members := [{ head := 1, outcome := o }], kept := none }] } }

/-- The only record of a calibration's serial: head 2 alone expected, having seen a board or an empty lug. -/
def watched (seen : Bool) : Board :=
  { board 18#16 .scanning with window := some ((windowOf [2]).modify 1 fun v => { v with outcome := .good, present := seen }) }

/-- R29, R30: an outcome held at the close of its serial is settled, as DISTURBED where the record is kept. -/
theorem test_held_outcome_is_settled_at_close :
    let at' (seen : Bool) : State := calibratingAt (some .good) [watched seen]
    let closed (seen : Bool) : State := (at' seen).works [.close 18#16]
    (∀ seen, (at' seen).intake.heads.length = 12 ∧ ((at' seen).intake.calibrations.map fun x => x.serial).Nodup ∧
        ((at' seen).head 1).misses < 2 ∧ ((at' seen).tracker.ring.map fun x => x.tag).Nodup ∧
        (watched seen).window.map (fun w => (w.length, (viewOf w 1).expected)) = some (12, false)) ∧
      (closed true).head 1 = { absentHead with state := .stale } ∧
      (closed false).head 1 = { absentHead with state := .active, counter := 100 } ∧
      (closed true).intake.calibrations = [{ serial := 18#16, members := [], kept := some true }] ∧
      (closed false).tracker.ring = [] := by
  decide +kernel

/-- R30, R31: at position AW a member without an outcome is settled FAILED and the calibration is closed, after the close of
the record there, or with none. -/
theorem test_calibration_closes_at_assembly_window :
    let late (bs : List Board) : State := running.lugPart (calibratingAt none bs) .window
    ((calibratingAt none []).tracker.serial - BitVec.ofNat 16 running.line.config.aw = 18#16 ∧
        (calibratingAt none []).intake.heads.length = 12) ∧
      (∀ bs ∈ [[], [watched true]], ((late bs).head 1 = { absentHead with state := .stale, misses := 1 }) ∧
        (late bs).intake.calibrations = []) ∧
      ((late [watched true]).tracker.ring.map fun b => b.state) = [.decided] ∧
      ((running.lugPart (calibratingAt (some .good) [watched false]) .window).head 1).state = .active := by
  decide +kernel

theorem witness_AssemblyCloseKeepsOrDrops :
    let seen := (windowOf [1, 2]).modify 1 fun v => { v with outcome := .good, present := true, endPos := none }
    let s := ring [{ board 20#16 .scanning with window := some seen }]
    let closed := (s.closeBoard 20#16).1
    (s.tracker.ring.map fun x => x.tag).Nodup ∧ (∀ v ∈ windowOf [1, 2], v.present = false ∧ v.outcome ≠ .poison) ∧
      (∃ v ∈ seen, v.present = true ∨ v.outcome = .poison) ∧
      (closed.tracker.ring.map fun b => (b.length, b.marks, b.advisory)) =
        [(some 1220, [.blind, .good, .blind], some (.fallback .noRun))] ∧
      ((ring [board 20#16 .scanning]).closeBoard 20#16).1.tracker.ring = [] := by
  decide +kernel

/-- Three views of heads 1 to 3 that closed a record of run 7 at position 0, its items around the last zone's start. -/
def closedWith (views : List HeadView) : State :=
  let item (a z : Nat) : Defect :=
    { kind := .knot, start := a, stop := z, size := 1, severity := 1, faces := 0#4, source := 1 }
  ((withRun (ring [{ board 20#16 .scanning with
    run := some 7, bank := some .a, window := some (views ++ List.replicate 9 blankView)
    defects := [item 0 2000, item 1220 1221, item 1221 1222] }]) .isOpen none).closeBoard 20#16).1

/-- A head's view: its outcome, whether it saw the board, the end it reported. -/
def viewWith (o : HeadOutcome) (seen : Bool) (e : Option Nat) : HeadView :=
  { blankView with expected := true, outcome := o, present := seen, endPos := e }

/-- The measured lengths of the records and whether they are OVERLENGTH. -/
def lengths (s : State) : List (Option Nat × Bool) := s.tracker.ring.map fun b => (b.length, b.overlength)

/-- The ends of the items of the records. -/
def itemEnds (s : State) : List Nat := s.tracker.ring.flatMap fun b => b.defects.map fun d => d.stop

/-- R24: a board past the last zone is OVERLENGTH, an end of 0 counts as 1, items end at the measured length. -/
theorem test_close_measures_and_clamps :
    let good := viewWith .good true none
    let poison := viewWith .poison false none
    let silent := viewWith .none false none
    (lengths (closedWith [good, good, good]) = [(some 1830, true)] ∧
        lengths (closedWith [good, good, viewWith .good true (some 0)]) = [(some 1221, false)] ∧
        lengths (closedWith [good, poison, silent]) = [(some 610, false)] ∧
        lengths (closedWith [silent, poison, silent]) = [(some 1220, false)]) ∧
      itemEnds (closedWith [good, good, good]) = [1830, 1221, 1222] ∧
      itemEnds (closedWith [good, good, viewWith .good true (some 0)]) = [1221, 1221] ∧
      itemEnds (closedWith [silent, poison, silent]) = [1220] := by
  decide +kernel

/-- R22: the marks; R149: the board is counted and numbered in its run. -/
theorem test_close_marks_and_numbers :
    let good := viewWith .good true none
    let t := closedWith [{ good with overflow := true, stale := true }, { good with stale := true }, viewWith .poison false none]
    (t.tracker.ring.map fun b => (b.marks, b.number, b.advisory)) =
        [([.incomplete, .stale, .poison], some 1, some (.fallback .poison))] ∧
      counted t = [(128, 1)] := by
  decide +kernel

/-- R66: with every engine busy a board that closes at position 1 joins the queue between its earlier and its later board. -/
theorem test_queue_is_in_tag_order :
    let b : Board :=
      { board 19#16 .scanning with
        run := some 7, bank := some .a, window := some ((windowOf [1]).set 0 (viewWith .good true none)) }
    let s (queue : List Tag) : State :=
      { withRun (ring [b]) .isOpen none with
        grading := { engines := List.replicate 3 (.evaluating 1#16 0#13 false), queue := queue, regrades := [] } }
    let queued (queue : List Tag) := ((s queue).closeBoard 19#16).1.grading.queue
    queued [17#16, 18#16, 20#16] = [17#16, 18#16, 19#16, 20#16] ∧ queued [20#16] = [19#16, 20#16] ∧
      queued [18#16] = [18#16, 19#16] ∧ queued [] = [19#16] := by
  decide +kernel

/-- R25, R153: the close offers TALLY_SATURATED, then QUEUE_FULL where eight evaluations wait. -/
theorem test_close_notices :
    let b : Board :=
      { board 20#16 .scanning with
        run := some 7, bank := some .a, window := some ((windowOf [1]).set 0 (viewWith .good true none)) }
    let s : State :=
      { nearTop (withRun (ring [b]) .isOpen none) 128 4294967294 with
        grading := { engines := [.evaluating 1#16 0#13 false], queue := List.replicate 8 2#16, regrades := [] } }
    lineFrames (s.closeBoard 20#16).1 =
        [(0x48#8, [6#8, 7#8, 0#8, 128#8, 0xFF#8]), (0x48#8, [4#8, 20#8, 0#8, 0xFF#8, 0xFF#8])] ∧
      ((s.closeBoard 20#16).1.tracker.ring.map fun x => x.advisory) = [some (.fallback .queueFull)] := by
  decide +kernel

/-- A running line with a log in progress that holds some samples. -/
def collecting (samples : List Nat) : State :=
  { running with
    logs := { running.logs with current := some { booking := none, samples := samples, overlength := false, suspect := false } } }

theorem witness_LogFramesBuildTheLog :
    running.logs.current = none ∧ (collecting [1]).logs.current ≠ none ∧ parseLogSamples [1#8, 44#8, 1#8] = some [300] ∧
      parseLogSamples [0#8] = none ∧ (collecting [1]).bookedRun none = none ∧
      (after (exec (.logSamples 0#16 true [1#8, 44#8, 1#8]) (collecting (List.replicate 120 5)))).logs.current =
        some { booking := none, samples := List.replicate 120 5, overlength := true, suspect := false } ∧
      (after (exec (.logBegin 0#16 false []) (collecting [1]))).tally.unattributed.debris = 1 := by
  decide +kernel

theorem witness_LogEndScalesTheLog :
    scale [300, 300, 300, 300] = none ∧ (scale [300, 300, 300, 300, 300]).isSome = true ∧
      (after (exec (.logEnd 0#16 true []) (collecting [300, 300, 300, 300, 300]))).logs.memory =
        [{ sequence := 0#32, run := none, length := 500, sed := 300, led := 300, litres := 35, suspect := false
           overlength := false, unattributed := true }] ∧
      (after (exec (.logEnd 0#16 true []) (collecting [300, 300, 300, 300]))).tally.unattributed.debris = 1 := by
  decide +kernel

/-- R39, R48: a log booked to a run adds to that run's counters; SUSPECT from its LOG_BEGIN counts as well. -/
theorem test_booked_log_counts :
    let s (samples : List Nat) : State :=
      { withRun running .isOpen none with
        logs :=
          { running.logs with
            current := some { booking := some { key := 0, id := 7 }, samples := samples, overlength := false, suspect := true } } }
    (s []).bookedRun (some { key := 0, id := 7 }) = some 7 ∧ (s []).findRun 7 = some (runOf .isOpen none) ∧
      counted (after (exec (.logBegin 0#16 true []) (s [300]))) = [(131, 1)] ∧
      counted (after (exec (.logEnd 0#16 true []) (s [300]))) = [(131, 1)] ∧
      counted (after (exec (.logEnd 0#16 true []) (s [300, 300, 300, 300, 300]))) = [(129, 1), (130, 35), (132, 1)] ∧
      (after (exec (.logBegin 0#16 true []) (withRun running .isOpen none))).logs.current =
        some { booking := some { key := 0, id := 7 }, samples := [], overlength := false, suspect := false } := by
  decide +kernel

/-- R48, R188: LOG_SCALED with its record if selected, then LOG_SUSPECT with its sequence number; R153: before them the
TALLY_SATURATED of a booked log whose count reaches the maximum. -/
theorem test_log_end_reports :
    let span := List.replicate 5 300
    let s (selection : BitVec 3) : State :=
      { collecting span with logs := { (collecting span).logs with nextSequence := 0x01020304#32 }, selection := selection }
    let record : List Byte := [4#8, 3#8, 2#8, 1#8, 0#8, 0#8, 0xF4#8, 1#8, 0x2C#8, 1#8, 0x2C#8, 1#8, 35#8, 0#8]
    let suspect : Byte × List Byte := (0x48#8, [7#8, 4#8, 3#8, 2#8, 1#8])
    let reports (ok : Bool) (u : State) := lineFrames (after (exec (.logEnd 0#16 ok []) u))
    let booked (k v : Nat) : State :=
      { nearTop (withRun running .isOpen none) k v with
        logs :=
          { running.logs with
            current := some { booking := some { key := 0, id := 7 }, samples := span, overlength := false, suspect := false } }
        selection := 3#3 }
    (reports true (s 4#3) = [(0x43#8, record ++ [4#8])] ∧ reports false (s 4#3) = [(0x43#8, record ++ [5#8]), suspect] ∧
        reports false (s 3#3) = [suspect] ∧ reports true (s 3#3) = []) ∧
      (reports true (booked 130 4294967260) = [(0x48#8, [6#8, 7#8, 0#8, 130#8, 0xFF#8])] ∧
        reports true (booked 130 4294967259) = [] ∧
        lineFrames (after (exec (.logBegin 0#16 true []) (booked 131 4294967294))) =
          [(0x48#8, [6#8, 7#8, 0#8, 131#8, 0xFF#8])]) := by
  decide +kernel

/-! ### The grading unit and the commit: the worked cases of sections 5.9 and 6.8.1 -/

/-- The cells of a row from a column on. -/
def rowOf (t : Table) (row col : Nat) (vs : List Nat) : List Cell :=
  (List.range vs.length).map fun k => (cellKey t row (col + k), BitVec.ofNat 16 (vs.getD k 0))

/-- Bank A of section 4.6 with the split limits of section 5.9 and the tables of section 6.8.1. -/
def workedBank : Bank :=
  { state := .loaded
    cells :=
      rowOf .limits 0 0 [25, 4, 100, 1] ++ rowOf .limits 1 0 [50, 8, 100, 2, 5] ++ rowOf .limits 1 10 [10, 5, 200, 1] ++
        rowOf .limits 2 0 [90, 12, 150, 4, 10] ++ rowOf .limits 2 10 [20, 10, 600, 2] ++
        rowOf .price 0 2 [40, 66, 92, 120, 150, 178] ++ rowOf .price 1 2 [30, 48, 66, 86, 104, 124] ++
        rowOf .price 2 2 [18, 28, 38, 49, 60, 70] ++ rowOf .price 8 2 [5, 5, 5, 5, 5, 5] ++ rowOf .bins 1 7 [12] ++
        rowOf .altBins 0 12 [13] ++ rowOf .names 0 0 [0x53, 0x45, 0x4C] ++ rowOf .names 1 0 [0x31, 0x43, 0x4F, 0x4D] ++
        rowOf .names 2 0 [0x32, 0x43, 0x4F, 0x4D] ++ rowOf .labels 7 0 [0x31, 0x34] ++
        rowOf .stamp 0 0 [2] ++ rowOf .stamp 1 0 [1, 0x2D] ++ rowOf .stamp 2 0 [3] ++ rowOf .stamp 3 0 [8, 0x30] ++
        rowOf .stamp 4 0 [4, 3] ++ rowOf .params 0 0 [3, 3, 2, 2] }

def workedLine : LineParams :=
  { hn := 8, zp := 610, sn := 10, sp := 610, so := 30, d := 20, h := 4, m := 1, aw := 2, hd := 2, k := 0, ci := 2000
    ol := 200, ct := 3000, vm := 500 }

/-- The board of section 5.9, its zone 3 marked as given. -/
def workedBoard (zone3 : ZoneMark) : Board :=
  { board 1000#16 .decided with
    run := some 21, bank := some .a, number := some 312, length := some 4400
    marks := [.good, .good, .good, zone3, .good, .good, .good, .good]
    defects :=
      [{ kind := .knot, start := 700, stop := 760, size := 45, severity := 6, faces := 1#4, source := 2 },
        { kind := .knot, start := 2000, stop := 2030, size := 20, severity := 3, faces := 1#4, source := 4 },
        { kind := .split, start := 4150, stop := 4400, size := 3, severity := 3, faces := 1#4, source := 7 }]
    advisory := some (.piece 0 7 1 124 false false) }

/-- R80 to R85, section 5.9: the pieces (0,7), (2,6) and, with zone 3 STALE, (0,7). -/
theorem witness_GradeIsTheWorstOfItemsAndCaps :
    gradeCount workedBank ≤ 8 ∧
      gradePiece workedLine workedBank (workedBoard .good) 0 7 = { before := 1, grade := 1, value := 124 } ∧
      gradePiece workedLine workedBank (workedBoard .good) 2 6 = { before := 0, grade := 0, value := 92 } ∧
      gradePiece workedLine workedBank (workedBoard .stale) 0 7 = { before := 1, grade := 2, value := 70 } := by
  decide +kernel

/-- R77 to R79, R86, R87, sections 5.9, 5.9.2, 5.9.3 and 5.9.4. -/
theorem witness_BestPairIsChosen :
    (eligibleCandidates workedLine workedBank (workedBoard .good) 0x3FF#13 false).isEmpty = false ∧
      (eligibleCandidates workedLine workedBank { workedBoard .good with length := some 1200 } 0x3FF#13 false).isEmpty = true ∧
      evaluate workedLine workedBank (workedBoard .good) 0x3FF#13 false = .piece 0 7 1 124 false false ∧
      evaluate workedLine workedBank (workedBoard .blind) 0x3FF#13 false = .piece 4 7 1 48 false false ∧
      evaluate workedLine workedBank (workedBoard .blind) 0x3FF#13 true = .piece 0 2 1 30 true false ∧
      evaluate workedLine workedBank { workedBoard .good with length := some 1200 } 0x3FF#13 false = .waste 3#13 false := by
  decide +kernel

/-- R80, R84: a knot of 25 mm and severity 4 passes grade 0 of section 4.6.1 over at most 100 mm of the piece; the second in
the piece fails its count of 1; an item that only touches the near end is outside. A cap below the grade count is applied. -/
theorem test_qualifies_and_caps :
    let knot (start size severity : Nat) : Defect :=
      { kind := .knot, start := start, stop := start + 100, size := size, severity := severity, faces := 0#4, source := 1 }
    (qualifies workedBank [knot 100 25 4] 0 1000 0 = true ∧ qualifies workedBank [knot 100 26 4] 0 1000 0 = false ∧
        qualifies workedBank [knot 100 25 5] 0 1000 0 = false ∧
        qualifies workedBank [knot 100 25 4, knot 300 25 4] 0 1000 0 = false ∧
        qualifies workedBank [knot 100 25 4, knot 300 25 4] 200 1000 0 = true ∧
        qualifies workedBank [{ knot 100 25 4 with stop := 201 }] 0 1000 0 = false) ∧
      (markCap workedBank .blind = some 8 ∧ markCap workedBank .stale = some 2 ∧ markCap workedBank .good = none) := by
  decide +kernel

/-- R92 to R105, section 6.8.1: value 124, bin 13 for the full bin 12, and the stamp "1COM-14021". -/
theorem test_worked_commit :
    let s : State :=
      { running with
        line := { running.line with config := workedLine }
        rules := { running.rules with bankA := workedBank }
        outfeed := { running.outfeed with binFull := 0x1000#64 } }
    (s.commitment (workedBoard .good)).decision =
        { what := .piece 0 7 (.index 1), value := 124, source := .auto, bin := some 13
          flags := { noFlags with altBin := true } } ∧
      (s.commitment (workedBoard .good)).stamp =
        some [0x31#8, 0x43#8, 0x4F#8, 0x4D#8, 0x2D#8, 0x31#8, 0x34#8, 0x30#8, 0x32#8, 0x31#8] := by
  decide +kernel

/-- R92 to R100: TRACKING before an override, the kinds of override, a manual piece beyond the board, LATE, a saw that is
OUT, a board with no bank. -/
theorem test_commit_cases :
    let s (o : Ownership) (p : ManualPattern) : State :=
      { running with
        line := { running.line with config := workedLine }
        rules := { running.rules with bankA := workedBank }
        trimmer := { running.trimmer with ownership := o, pattern := p }
        outfeed := { running.outfeed with saws := running.outfeed.saws.modify 9 fun w => { w with state := .out } } }
    let auto := s .auto .pass
    let withOverride (k : OverrideKind) (r : Option RegradeResult) : Board :=
      { workedBoard .good with
        override := some { kind := k, fromPort := .console, status := .none, result := r, unused := false } }
    let of (u : State) (b : Board) := let d := (u.commitment b).decision; (d.what, d.value, d.source)
    (of auto { withOverride .pass none with tracking := true } = (.fallback .tracking, 0, .auto) ∧
        of auto (withOverride .pass none) = (.pass, 0, .console) ∧
        of auto (withOverride (.setGrade 0) none) = (.piece 0 7 (.index 0), 178, .console) ∧
        of auto (withOverride (.setBoth 2 6 8) none) = (.piece 2 6 (.index 8), 5, .console) ∧
        of auto (withOverride (.setTrim 2 6) none) = (.piece 2 6 .ungraded, 0, .console) ∧
        of auto (withOverride (.setTrim 2 6) (some { grade := 0, value := 92 })) = (.piece 2 6 (.index 0), 92, .console)) ∧
      (of (s .manual (.piece 0 8 (.index 0))) (workedBoard .good) = (.fallback .noFit, 0, .manual) ∧
        of (s .manual (.piece 0 7 (.index 2))) (workedBoard .good) = (.piece 0 7 (.index 2), 70, .manual) ∧
        of (s .manual .waste) (workedBoard .good) = (.waste 0xFF#13, 0, .manual)) ∧
      (of auto { workedBoard .good with advisory := none } = (.fallback .late, 0, .auto) ∧
        (auto.commitment { workedBoard .good with advisory := none }).late = true ∧
        of auto { workedBoard .good with advisory := some (.piece 0 9 1 124 true true) } = (.fallback .sawOut, 0, .auto) ∧
        of auto { withOverride (.setGrade 0) none with advisory := none } = (.fallback .late, 0, .auto) ∧
        (auto.commitment { withOverride (.setGrade 0) none with advisory := none }).decision.flags.overrideUnused = true ∧
        of auto { workedBoard .good with bank := none, run := none } = (.piece 0 7 .ungraded, 0, .auto) ∧
        (auto.commitment { workedBoard .good with bank := none, run := none }).decision.flags.noBank = true) := by
  decide +kernel

/-- A running line that owns the trimmer as said, its engines and its ring as given. -/
def working (engines : List Engine) (bs : List Board) : State :=
  { ring bs with grading := { engines := engines, queue := [], regrades := [] } }

theorem witness_EvaluationCompleteWritesTheAdvisory :
    let b := { board 17#16 .evaluating with bank := some .a }
    let s := working [.idle, .evaluating 17#16 0xF#13 false, .idle] [b]
    s.line.resetting = false ∧ s.grading.engines[2 - 1]? = some (.evaluating 17#16 0xF#13 false) ∧
      (s.tracker.ring.map fun x => x.tag).Nodup ∧ b ∈ s.tracker.ring ∧ s.grading.queue = [] ∧ s.grading.regrades = [] ∧
      (∀ t sn r, s.grading.engines[1 - 1]? ≠ some (.evaluating t sn r)) ∧
      ((after (exec (.evaluationComplete 2) s)).tracker.ring.map fun x => (x.state, x.advisory)) =
        [(.decided, some (.waste 7#13 false))] := by
  refine ⟨rfl, rfl, by decide +kernel, by decide +kernel, rfl, rfl, ?_, by decide +kernel⟩
  intro t sn r h
  cases h

/-- R69, R70, R71: engine 2 is busy; engine 1 takes the regrade, engine 3 then the first of the queue, with saws 0 and 2 of the
four below SN IN; with D = 8, H = 3 and HD = 1 a take is REDUCED from position 4 on. -/
theorem test_arbiter_takes :
    let s (hd : Nat) (t : Tag) : State :=
      { ring [board t .queued, board 19#16 .queued] with
        line := { running.line with config := { params with hd := hd } }
        outfeed :=
          { running.outfeed with
            saws := (List.range 13).map fun k =>
              { state := if k = 1 then .out else if k = 3 then .faulted else .inService, mismatches := 0 } }
        grading :=
          { engines := [.idle, .evaluating 17#16 0#13 false, .idle], queue := [t, 19#16]
            regrades := [{ tag := 18#16, i := 1, j := 4 }] } }
    let u (hd : Nat) (t : Tag) := (s hd t).arbitrate
    (s 1 16#16).grading.engines.length = 3 ∧
      (u 1 16#16).grading =
        { engines := [.regrading 18#16 1 4 false, .evaluating 17#16 0#13 false, .evaluating 16#16 5#13 true]
          queue := [19#16], regrades := [] } ∧
      ((u 1 16#16).tracker.ring.map fun b => b.state) = [.evaluating, .queued] ∧
      (u 1 17#16).grading.engines.getD 2 .idle = .evaluating 17#16 5#13 false ∧
      (u 0 16#16).grading.engines.getD 2 .idle = .evaluating 16#16 5#13 false ∧
      (u 1 16#16).arbitrate.grading = (u 1 16#16).grading := by
  decide +kernel

theorem witness_RegradeCompleteWritesTheResult :
    let o : Override := { kind := .setTrim 0 1, fromPort := .console, status := .pending, result := none, unused := false }
    let b := { board 17#16 .decided with bank := some .a, override := some o }
    let s (withdrawn : Bool) := working [.idle, .idle, .regrading 17#16 0 1 withdrawn] [b]
    (s true).line.resetting = false ∧ (s false).grading.engines[3 - 1]? = some (.regrading 17#16 0 1 false) ∧
      (s true).grading.engines[3 - 1]? = some (.regrading 17#16 0 1 true) ∧
      ((s false).tracker.ring.map fun x => x.tag).Nodup ∧
      ((after (exec (.regradeComplete 3) (s false))).tracker.ring.map fun x => x.override.bind fun y => y.result) =
        [some { grade := 8, value := 0 }] ∧
      ((after (exec (.regradeComplete 3) (s true))).tracker.ring.map fun x => x.override.bind fun y => y.result) = [none] ∧
      (after (exec (.regradeComplete 3) (s true))).grading.engines = [.idle, .idle, .idle] := by
  decide +kernel

/-- A DECIDED board at the horizon of D = 8 and H = 3, a committed one past it, with the lug serial at 20. -/
def atHorizon : State :=
  ring
    [{ board 14#16 .committed with decision := some passDecision }, { board 15#16 .decided with advisory := some (.fallback .noRun) },
      board 19#16 .scanning]

theorem witness_HorizonCommitsTheBoard :
    atHorizon.line.config.geometry ∧ (atHorizon.tracker.ring.map fun x => x.tag).Nodup ∧
      atHorizon.trimmer.ownership = .auto ∧
      { board 15#16 .decided with advisory := some (.fallback .noRun) } ∈ atHorizon.tracker.ring ∧
      atHorizon.position 15#16 = atHorizon.line.config.d - atHorizon.line.config.h ∧
      (atHorizon.horizonEvent.tracker.ring.map fun b => b.state) = [.committed, .committed, .scanning] ∧
      atHorizon.horizonEvent.patterns = [{ tag := 15#16, saws := 0#13, bin := some 0 }] ∧
      ({ atHorizon with trimmer := { atHorizon.trimmer with ownership := .takePending } }).horizonEvent.trimmer.ownership =
        .manual := by
  unfold LineParams.geometry
  decide +kernel

/-- R107, R124: the commit's reports; R111, R112: what a pending change of ownership becomes, with its reports, also when
nothing stands at the horizon; a manual decision's loss of value. -/
theorem test_horizon_reports :
    let at' (o : Ownership) (a : Option Advisory) : State :=
      { ring [{ board 15#16 .decided with advisory := a }] with
        trimmer :=
          { running.trimmer with
            ownership := o, valueLoss := 90, attention := { running.trimmer.attention with valueLoss := decide (a = none) } }
        selection := 7#3 }
    let kinds (q : PortState) := q.outbound.map fun f => f.kind
    let lossy := (at' .takePending (some (.piece 0 1 0 10 false false))).horizonEvent
    let released := (at' (.releasePending .reclaim) none).horizonEvent
    (kinds lossy.linePort = [0x4A#8, 0x40#8] ∧ kinds lossy.consolePort = [0x4A#8, 0x42#8, 0x4B#8] ∧
        lossy.trimmer.ownership = .manual ∧ lossy.trimmer.valueLoss = 100 ∧ lossy.trimmer.attention.valueLoss = true) ∧
      (kinds released.linePort = [0x4A#8, 0x40#8, 0x48#8] ∧ kinds released.consolePort = [0x4A#8, 0x4B#8, 0x42#8] ∧
        released.trimmer.ownership = .auto ∧ released.trimmer.pattern = .pass ∧ released.trimmer.valueLoss = 0) ∧
      (let s : State := { ring [board 14#16 .cut] with trimmer := { running.trimmer with ownership := .takePending } }
      s.horizonEvent = s.resolveOwnership ∧ s.horizonEvent.trimmer.ownership = .manual) := by
  decide +kernel

/-- The same records one lug earlier, between two lug events. -/
def orderly : State :=
  { atHorizon with
    tracker := { atHorizon.tracker with serial := 19#16, synced := true, homeCount := 23 }
    pending := [.homePulse] }

theorem homePulse_next (s : State) : exec .homePulse s = .next (after (exec .homePulse s)) := by
  show execHomePulse s = .next (after (execHomePulse s))
  unfold execHomePulse
  split <;> rfl

/-- A step that takes a HOME pulse answers a next state. -/
theorem step_homePulse_next {s : State} (h : s.pending = [.homePulse]) : step s = .next (after (step s)) := by
  unfold step
  rw [h]
  exact homePulse_next _

/-- The order of a ring whose evaluation queue is empty. -/
theorem ringInOrder_of {s : State} (hq : s.grading.queue = [])
    (h : (s.config.geometry ∧ (s.tracker.ring.map fun b => b.tag).Nodup) ∧
      ∀ b ∈ s.tracker.ring, placedRight s.config (s.position b.tag) b) : s.ringInOrder :=
  ⟨h.1.1, h.1.2, h.2, by simp [hq], by simp [hq], by simp [hq]⟩

theorem witness_ringInOrder : orderly.ringInOrder := by
  apply ringInOrder_of rfl
  unfold placedRight LineParams.geometry
  decide +kernel

/-- R12, R4: a HOME pulse with a wrong count marks a COMMITTED record TRACKING and leaves its decision. -/
theorem witness_CommittedDecisionsStand :
    orderly.ringInOrder ∧ { board 14#16 .committed with decision := some passDecision } ∈ orderly.tracker.ring ∧
      step orderly = .next (after (step orderly)) ∧
      { board 14#16 .committed with decision := some passDecision, tracking := true } ∈ (after (step orderly)).tracker.ring := by
  refine ⟨witness_ringInOrder, ?_, step_homePulse_next rfl, ?_⟩
  · decide +kernel
  · decide +kernel

/-- R5, R10: the TRACKING mark of a DECIDED record and its run stay through a HOME pulse that finds nothing wrong. -/
theorem witness_tracking_mark_stays :
    let b : Board := { board 15#16 .decided with tracking := true, run := some 7, bank := some .a }
    let s : State := { orderly with tracker := { orderly.tracker with homeCount := 24, ring := [b] } }
    s.ringInOrder ∧ b ∈ s.tracker.ring ∧ step s = .next (after (step s)) ∧ b ∈ (after (step s)).tracker.ring := by
  refine ⟨?_, ?_, step_homePulse_next rfl, ?_⟩
  · apply ringInOrder_of rfl
    unfold placedRight LineParams.geometry
    decide +kernel
  · decide +kernel
  · decide +kernel

/-- R9: a close, a commit and a cut leave the other records of the ring as they were. -/
theorem test_other_records_stay :
    let near := { board 20#16 .scanning with window := some ((windowOf [1]).set 0 (viewWith .good true none)) }
    let far := { board 12#16 .committed with decision := some passDecision, tracking := true, run := some 3 }
    let mid := { board 15#16 .decided with advisory := some (.fallback .noRun), bank := some .b }
    let s := ring [far, mid, near]
    ((s.closeBoard 20#16).1.tracker.ring.take 2 = [far, mid] ∧
        (s.horizonEvent.tracker.ring.head? = some far ∧ s.horizonEvent.tracker.ring.getLast? = some near)) ∧
      ((s.sawLineEvent far).tracker.ring.tail = [mid, near] ∧
        (s.sawLineEvent far).tracker.ring.head? =
          some
            { far with
              state := .cut, sampled := some { saws := 0#13, outcome := .normal } }) := by
  decide +kernel

/-! ### The saw line, the marker, the trimmer -/

theorem witness_SamplingFaultsASawAtTwo :
    let s (m : Nat) : State :=
      { running with
        outfeed := { running.outfeed with saws := List.replicate 13 { state := .inService, mismatches := m } }
        pins := { running.pins with feedback := 0x18#13 } }
    (s 0).outfeed.saws[3]? = some { state := .inService, mismatches := 0 } ∧
      ((s 0).sampleSaws none none).outfeed.saws[3]? = some { state := .inService, mismatches := 1 } ∧
      ((s 1).sampleSaws none none).outfeed.saws[3]? = some { state := .faulted, mismatches := 0 } ∧
      ((s 1).sampleSaws none none).outfeed.saws[4]? = some { state := .inService, mismatches := 1 } ∧
      ((s 1).sampleSaws (some { tag := 1#16, saws := 8#13 }) none).outfeed.saws[3]? =
        some { state := .inService, mismatches := 0 } := by
  decide +kernel

/-- R133, R164: a saw found FAULTED is noticed with the record sampled, or with none. -/
theorem test_saw_fault_notice :
    let s : State :=
      { running with
        outfeed := { running.outfeed with saws := List.replicate 13 { state := .inService, mismatches := 1 } }
        pins := { running.pins with feedback := 0xC#13 } }
    lineFrames (s.sampleSaws none none) =
        [(0x48#8, [5#8, 2#8, 0xFF#8, 0xFF#8, 0#8]), (0x48#8, [5#8, 3#8, 0xFF#8, 0xFF#8, 0#8])] ∧
      lineFrames (s.sampleSaws (some { tag := 12#16, saws := 4#13 }) (some 12#16)) = [(0x48#8, [5#8, 3#8, 12#8, 0#8, 1#8])] := by
  decide +kernel

/-- R129: of the applied set {1, 3, 4} the outputs of saws 1 and 3 are down where SN = 4; with none applied all are up. -/
theorem test_drop_outputs :
    ({ running with outfeed := { running.outfeed with applied := some { tag := 9#16, saws := 0x1A#13 } } }).dropOutputs = 0xA#13 ∧
      running.dropOutputs = 0#13 := by
  decide +kernel

/-- R129, R131: with D = 8 and M = 1 at serial 20, the record 13 gives the pattern applied, 12 is cut and 11 leaves. -/
theorem test_outfeed_part :
    let s : State :=
      { ring
          [{ board 11#16 .cut with decision := some passDecision, stamp := some [0x41#8] },
            { board 12#16 .committed with decision := some passDecision },
            { board 13#16 .committed with decision := some { passDecision with what := .waste 8#13 } }] with
        patterns := [{ tag := 12#16, saws := 0#13, bin := some 0 }, { tag := 13#16, saws := 8#13, bin := none }]
        pins := { eyeLoaded := false, feedback := 0#13, markerReady := true }
        selection := 7#3 }
    let t := running.lugPart s .outfeed
    (s.line.config.geometry ∧ (s.tracker.ring.map fun x => x.tag).Nodup) ∧
      (t.tracker.ring.map fun b => (b.tag, b.state)) = [(12#16, .cut), (13#16, .committed)] ∧
      t.outfeed.applied = some { tag := 13#16, saws := 8#13 } ∧ t.outputs = [.binStrobe 0, .marker [0x41#8]] ∧
      t.patterns = [{ tag := 13#16, saws := 8#13, bin := none }] ∧
      (t.linePort.outbound.map fun f => f.kind) = [0x41#8] ∧
      ((running.lugPart (ring []) .outfeed).outfeed.applied) = none := by
  unfold LineParams.geometry
  decide +kernel

theorem witness_SawLineAndMarkerFinishTheBoard :
    let b := { board 12#16 .committed with decision := some passDecision, stamp := some [0x41#8] }
    let s (feedback : SawSet) (ready : Bool) : State :=
      { ring [b] with pins := { eyeLoaded := false, feedback := feedback, markerReady := ready } }
    (((s 0#13 true).tracker.ring.map fun x => x.tag).Nodup ∧ b ∈ (s 0#13 true).tracker.ring) ∧
      (((s 0#13 true).sawLineEvent b).tracker.ring.map fun x => (x.state, x.stamp)) = [(.cut, some [0x41#8])] ∧
      (((s 8#13 true).sawLineEvent b).tracker.ring.map fun x => (x.state, x.stamp)) = [(.cut, some [])] ∧
      ((s 8#13 true).sawLineEvent b).tally.unattributed.cut = 1 ∧
      ((s 0#13 true).markerEvent { b with state := .cut }).outputs = [.marker [0x41#8]] ∧
      ((s 0#13 false).markerEvent { b with state := .cut }).outputs = [] ∧
      ((s 0#13 false).markerEvent { b with state := .cut }).tracker.ring = [] := by
  decide +kernel

/-- R150: what the saw-line event adds to the counters of the board's run: a graded piece, a mismatch, a fallback. -/
theorem test_saw_line_counts :
    let d (what : Chosen) (value : Nat) (source : Source) (reduced : Bool) : FinalDecision :=
      { what := what, value := value, source := source, bin := some 0, flags := { noFlags with reduced := reduced } }
    let cut (feedback : SawSet) (x : FinalDecision) :=
      let b := { board 12#16 .committed with run := some 7, bank := some .a, decision := some x }
      counted (({ withRun (ring [b]) .isOpen none with
        pins := { eyeLoaded := false, feedback := feedback, markerReady := true } }).sawLineEvent b)
    (pieceFits 0 2 (.index 1) ∧ (Chosen.fallback .late ≠ .fallback .noRun)) ∧
      cut 5#13 (d (.piece 0 2 (.index 1)) 60 .host true) =
        [(13, 1), (108, 1), (123, 1), (125, 1), (126, 60), (127, 1220)] ∧
      cut 5#13 (d (.piece 0 2 .ungraded) 0 .manual false) = [(109, 1), (124, 1)] ∧
      cut 1#13 (d (.piece 0 2 (.index 1)) 60 .auto false) = [(119, 1), (121, 1)] ∧
      cut 0#13 (d (.fallback .late) 0 .auto false) = [(112, 1), (121, 1)] ∧
      cut 0#13 (d .pass 0 .console false) = [(111, 1), (122, 1)] := by
  refine ⟨⟨⟨by decide, by decide, ?_⟩, by decide⟩, by decide +kernel⟩
  intro n h
  cases h
  decide

/-- A running line in an ownership. -/
def owning (o : Ownership) : State := { running with trimmer := { running.trimmer with ownership := o, timer := some 1 } }

theorem witness_SilenceExpiryReleasesTheTrimmer :
    running.line.resetting = false ∧ running.trimmer.timer = none ∧ (owning .manual).trimmer.timer ≠ none ∧
      (after (exec .silenceTimerExpiry (owning .manual))).trimmer.ownership = .releasePending .consoleLost ∧
      (after (exec .silenceTimerExpiry (owning .takePending))).trimmer.ownership = .auto ∧
      (after (exec .silenceTimerExpiry (owning .auto))).trimmer.timer = none := by
  decide +kernel

/-! ### The ports -/

theorem witness_FrameReceivedIsBuffered :
    ([] : List Byte).length ≤ 240 ∧ running.line.resetting = false ∧
      (after (exec (.frameReceived .console 0x7F#8 1#8 []) running)).consolePort.inbound =
        some { kind := 0x7F#8, tag := 1#8, body := [] } ∧
      (after (exec (.frameReceived .console 0x80#8 1#8 []) running)).consolePort.inbound = none ∧
      (after (exec (.frameReceived .console 0x80#8 1#8 []) running)).trimmer.timer = some 500 ∧
      (after (exec (.frameReceived .line 1#8 1#8 []) (asking running .line 2#8 []))).linePort.overrun = 1 := by
  decide +kernel

theorem witness_PortBytesMakeTheFrame :
    running.linePort.rx.state = .hunting ∧ running.pending = [] ∧ ([] : List Byte).length ≤ 240 ∧
      encodePortFrame 0x01#8 0x2A#8 [] = [0xA5#8, 0#8, 0#8, 0x01#8, 0x2A#8] ++ checkBytes [0#8, 0#8, 0x01#8, 0x2A#8] := by
  decide +kernel

theorem asks_any {s : State} (hl : s.linePort.outbound = []) (hc : s.consolePort.outbound = []) (p : Port) (kind : Byte)
    (body : List Byte) : (asking s p kind body).asks p (request kind body) := by
  apply asking_asks
  cases p
  · rw [show s.port .line = s.linePort from rfl, hl]; decide +kernel
  · rw [show s.port .console = s.consolePort from rfl, hc]; decide +kernel

/-- What a request leaves. -/
def did (i : Instr) (s : State) (p : Port) (kind : Byte) (body : List Byte) : State := after (exec i (asking s p kind body))

/-- The body of the reply to a request whose port's queue was empty. -/
def replyTo (i : Instr) (s : State) (p : Port) (kind : Byte) (body : List Byte) : List Byte :=
  (((did i s p kind body).port p).outbound.headD { kind := 0#8, tag := 0#8, body := [] }).body

theorem witness_RequestsAreTakenByTheirPort :
    ((asking running .console 0x21#8 []).asks .console (request 0x21#8 []) ∧
        (asking running .line 0x1D#8 []).asks .line (request 0x1D#8 []) ∧ State.reset.linePort.inbound = none) ∧
      inRequestSet .console 0x21#8 = false ∧ inRequestSet .line 0x1D#8 = false ∧ inRequestSet .line 0x1C#8 = true ∧
      replyTo (.unknownKind .console) running .console 0x21#8 [] = [0x0D#8] ∧
      replyTo (.takeTrimmer .line) running .line 0x1D#8 [] = [0x0D#8] ∧
      did (.unknownKind .line) running .line 0x1C#8 [] = asking running .line 0x1C#8 [] := by
  exact ⟨⟨asks_any rfl rfl _ _ _, asks_any rfl rfl _ _ _, rfl⟩, by decide +kernel⟩

theorem witness_OfferedFramesFollowTheTable :
    let f (kind : Byte) : Frame := { kind := kind, tag := 0#8, body := [] }
    let q (l : List Frame) : PortState := { freshPort with outbound := l }
    (f 0x43#8).informational = true ∧ (f 0x44#8).informational = false ∧
      ((q [f 0x48#8]).offer 2 1 (f 0x40#8)).outbound.length = 1 ∧ ((q [f 0x48#8]).offer 2 1 (f 0x40#8)).lost = 1 ∧
      ((q []).offer 2 1 (f 0x40#8)).outbound.length = 1 ∧ ((q [f 0x48#8]).offer 2 1 (f 0x49#8)).outbound.length = 2 ∧
      ((q [f 0x40#8, f 0x48#8]).offer 2 1 (f 0x49#8)).priorityLoss = 1 ∧
      ((q [f 0x48#8, f 0x40#8]).offer 2 1 (f 0x49#8)).outbound = [f 0x48#8, f 0x49#8] := by
  decide +kernel

theorem witness_HelloCarriesThePart :
    ((asking running .console 0x01#8 []).asks .console (request 0x01#8 []) ∧
        (asking running .line 0x01#8 [0#8]).asks .line (request 0x01#8 [0#8])) ∧
      replyTo (.hello .console) running .console 0x01#8 [] =
        [0#8, 0x5C#8, 0x1C#8, 1#8, 1#8, 0#8, 0#8, 1#8, 0#8, 0#8, 240#8, 16#8, 4#8, 0#8, 0#8, 0#8, 0#8, 0#8, 0#8, 0#8, 0#8] ∧
      replyTo (.hello .line) running .line 0x01#8 [0#8] = [1#8] := by
  exact ⟨⟨asks_any rfl rfl _ _ _, asks_any rfl rfl _ _ _⟩, by decide +kernel⟩

theorem witness_StatusCarriesItsPage :
    ((∀ page : Byte, (asking running .line 0x02#8 [page]).asks .line (request 0x02#8 [page])) ∧
        (request 0x02#8 [4#8]).body = [4#8]) ∧
      (replyTo (.status .line true) (ring []) .line 0x02#8 [0#8]).take 5 = [0#8, 20#8, 0#8, 1#8, 0#8] ∧
      (did (.status .line true) (ring []) .line 0x02#8 [0#8]).pins.markerReady = true ∧
      replyTo (.status .line true) (ring []) .line 0x02#8 [5#8] = [1#8] ∧
      (let s : State :=
        { working [.evaluating 1#16 3#13 true, .evaluating 2#16 3#13 false, .regrading 3#16 0 1 true] [] with
          trimmer := { running.trimmer with ownership := .manual, pattern := .waste } }
      s.trimmer.ownership = .manual ∧ s.logs.current = none ∧ (pageBytes s true .work).length = 30) ∧
      (let s : State := { running with outfeed := { running.outfeed with applied := some { tag := 0x102#16, saws := 0x1001#13 } } }
      (pageBytes s true .outfeed).drop 26 =
        [0x02#8, 0x01#8, 0x01#8, 0x01#8, 0x10#8, 0#8, 0#8, 0#8, 0#8, 0#8, 0#8, 0#8, 0#8, 0#8, 0x01#8]) := by
  exact ⟨⟨fun _ => asks_any rfl rfl _ _ _, rfl⟩, by decide +kernel⟩

theorem witness_BoardQueryShowsTheRecord :
    let s := ring [{ board 17#16 .decided with
      defects := [{ kind := .stain, start := 10, stop := 300, size := 5, severity := 2, faces := 9#4, source := 1 }] }]
    ((∀ body, (asking s .line 0x03#8 body).asks .line (request 0x03#8 body)) ∧
        (s.tracker.ring.map fun x => x.tag).Nodup) ∧
      replyTo (.boardQuery .line) s .line 0x03#8 [17#8, 0#8, 1#8, 0#8] =
        [0#8, 17#8, 0#8, 1#8, 1#8, 4#8, 10#8, 0#8, 0x2C#8, 1#8, 5#8, 0#8, 2#8, 9#8, 1#8] ∧
      replyTo (.boardQuery .line) s .line 0x03#8 [17#8, 0#8, 1#8, 1#8] = [0#8, 17#8, 0#8, 1#8, 0#8] ∧
      (replyTo (.boardQuery .line) s .line 0x03#8 [17#8, 0#8, 0#8, 0#8]).take 5 = [0#8, 17#8, 0#8, 3#8, 3#8] ∧
      replyTo (.boardQuery .line) s .line 0x03#8 [18#8, 0#8, 0#8, 0#8] = [4#8, 18#8, 0#8] ∧
      replyTo (.boardQuery .line) s .line 0x03#8 [17#8, 0#8, 2#8, 0#8] = [1#8] := by
  exact ⟨⟨fun _ => asks_any rfl rfl _ _ _, by decide +kernel⟩, by decide +kernel⟩

/-- R181, R183, R186: the bytes of a record's reports: with everything in it, and with a FALLBACK and nothing else. -/
theorem test_report_bytes :
    let b : Board :=
      { board 0x1234#16 .cut with
        run := some 0x0107, stamp := some [0x41#8, 0x42#8], advisory := some (.piece 0 7 1 0x0302 true true)
        override :=
          some { kind := .setTrim 2 6, fromPort := .console, status := .pending
                 result := some { grade := 8, value := 0x0A0B }, unused := true }
        decision :=
          some { what := .piece 2 6 (.index 8), value := 0x0A0B, source := .console, bin := some 13
                 flags := { noFlags with reduced := true, binDefault := true } }
        sampled := some { saws := 0x1001#13, outcome := .mismatch } }
    let f : Board := { board 5#16 .decided with advisory := some (.fallback .sawOut) }
    let piece : List Byte := [0#8, 0xFF#8, 2#8, 6#8, 8#8, 4#8, 0x0B#8, 0x0A#8, 1#8, 13#8, 0x21#8, 0x44#8, 0#8]
    let stamp : List Byte := [2#8, 0x41#8, 0x42#8] ++ List.replicate 10 0x20#8
    let advice : List Byte := [0#8, 0xFF#8, 0#8, 7#8, 1#8, 7#8, 2#8, 3#8, 3#8, 0x81#8, 0#8]
    let front : List Byte := [0x34#8, 0x12#8, 7#8, 1#8] ++ piece
    (decisionReport b = front ++ stamp ++ advice ++ [1#8] ∧
        boardViewReport b .commit =
          front ++ stamp ++ advice ++ [1#8, 2#8, 6#8, 0xFF#8, 1#8, 1#8, 8#8, 0x0B#8, 0x0A#8, 1#8, 2#8] ∧
        dispatchReport b = front ++ [1#8, 0x10#8, 1#8, 0#8] ++ stamp ++ [0#8]) ∧
      (boardViewReport f .evaluation =
          [5#8, 0#8, 0#8, 0#8] ++ List.replicate 14 0xFF#8 ++ List.replicate 12 0x20#8 ++ [3#8, 8#8] ++
            List.replicate 19 0xFF#8 ++ [0#8] ∧
        (decisionReport f).length = 42 ∧ (dispatchReport f).length = 35) := by
  decide +kernel

/-! ### Line control -/

theorem witness_LineConfigSetsTheLine :
    ((∀ body, (asking running .line 0x06#8 body).asks .line (request 0x06#8 body)) ∧
        (∀ body, (asking State.reset .line 0x06#8 body).asks .line (request 0x06#8 body)) ∧
        parseConfig (configBytes params) = some params ∧ badParameter params = none) ∧
      parseConfig ((List.range 23).map byteOf) =
        some
          { hn := 0, zp := 0x0201, sn := 3, sp := 0x0504, so := 0x0706, d := 8, h := 9, m := 10, aw := 11, hd := 12
            k := 0x0E0D, ci := 0x100F, ol := 0x1211, ct := 0x1413, vm := 0x1615 } ∧
      badParameter { params with hn := 13 } = some 1 ∧ badParameter { params with hn := 12, zp := 667 } = some 2 ∧
      badParameter { params with k := 23 } = some 11 ∧ badParameter { params with sp := 299, hn := 12, zp := 667 } = some 4 ∧ badParameter { params with h := 5 } = some 7 ∧
      badParameter { params with h := 4 } = none ∧
      replyTo (.lineConfig .line) State.reset .line 0x06#8 (configBytes { params with so := 301 }) = [3#8, 5#8] ∧
      replyTo (.lineConfig .line) running .line 0x06#8 (configBytes params) = [2#8] ∧
      (did (.lineConfig .line) State.reset .line 0x06#8 (configBytes params)).line.config = params ∧
      ((did (.lineConfig .line) State.reset .line 0x06#8 (configBytes params)).intake.heads.map fun h => h.state) =
        List.replicate 3 .stale ++ List.replicate 9 .absent := by
  exact ⟨⟨fun _ => asks_any rfl rfl _ _ _, fun _ => asks_any rfl rfl _ _ _, by decide +kernel⟩, by decide +kernel⟩

/-- A line in a state whose heads are all as said. -/
def lineOf (state : LineState) (heads : HeadState) : State :=
  { running with
    line := { running.line with state := state, latch := { lugSkip := decide (state = .stopped), allHeadsLost := false } }
    intake := { running.intake with heads := List.replicate 12 { absentHead with state := heads } } }

theorem witness_LineStartAndResume :
    ((asking (lineOf .configuring .stale) .line 0x07#8 []).asks .line (request 0x07#8 []) ∧
        (asking (lineOf .configuring .retired) .line 0x07#8 []).asks .line (request 0x07#8 []) ∧
        (asking (lineOf .stopped .active) .line 0x08#8 []).asks .line (request 0x08#8 []) ∧
        (asking (lineOf .stopped .retired) .line 0x08#8 []).asks .line (request 0x08#8 [])) ∧
      (did (.lineStart .line) (lineOf .configuring .stale) .line 0x07#8 []).line.state = .running ∧
      (did (.lineStart .line) (lineOf .configuring .retired) .line 0x07#8 []).line.latch.allHeadsLost = true ∧
      replyTo (.lineStart .line) State.reset .line 0x07#8 [] = [2#8] ∧
      replyTo (.lineStart .line) running .line 0x07#8 [1#8] = [1#8] ∧
      (did (.lineResume .line) (lineOf .stopped .active) .line 0x08#8 []).line.state = .running ∧
      replyTo (.lineResume .line) (lineOf .stopped .retired) .line 0x08#8 [] = [2#8] := by
  exact ⟨⟨asks_any rfl rfl _ _ _, asks_any rfl rfl _ _ _, asks_any rfl rfl _ _ _, asks_any rfl rfl _ _ _⟩, by decide +kernel⟩

theorem witness_LineResetEmptiesTheLine :
    let s := withRun (ring [{ board 15#16 .decided with run := some 7 }, board 18#16 .queued, board 20#16 .scanning]) .closing (some 12#16)
    ((asking s .line 0x09#8 []).asks .line (request 0x09#8 []) ∧ (s.tally.runs.map fun r => r.id).Nodup ∧
        120 < (runOf .closing (some 12#16)).counters.length ∧ s.findRun 7 = some (runOf .closing (some 12#16))) ∧
      (did (.lineReset .line) s .line 0x09#8 []).line.state = .configuring ∧
      ((did (.lineReset .line) s .line 0x09#8 []).tally.runs.map fun r => (r.state, (r.counter 120).value)) = [(.closed, 1)] ∧
      (did (.lineReset .line) s .line 0x09#8 []).tally.unattributed = { zeroFigures with discarded := 1 } ∧
      s.countReset (board 20#16 .cut) = s ∧
      ((s.countReset
        { board 20#16 .scanning with window := some [{ blankView with outcome := .poison }] }).tally.unattributed) =
        { zeroFigures with scanned := 1, discarded := 1 } := by
  exact ⟨⟨asks_any rfl rfl _ _ _, by decide +kernel⟩, by decide +kernel⟩

/-- R151, R39: a SCANNING record that a head has seen counts as scanned and DISCARDED in its run, one that none has seen does
not, and the log in progress is its run's debris. -/
theorem test_line_reset_counts_in_the_run :
    let seen : List HeadView := [{ blankView with present := true }]
    let s : State :=
      { withRun
          (ring
            [{ board 19#16 .scanning with run := some 7, window := some seen }, { board 20#16 .scanning with run := some 7 }])
          .isOpen none with
        logs :=
          { running.logs with
            current := some { booking := some { key := 0, id := 7 }, samples := [], overlength := false, suspect := false } } }
    counted (did (.lineReset .line) s .line 0x09#8 []) = [(120, 1), (128, 1), (131, 1)] ∧
      (did (.lineReset .line) s .line 0x09#8 []).tally.unattributed = zeroFigures := by
  decide +kernel

/-- R162: the reports of LINE_RESET after its reply: the counters it saturates, OWNER, RUN_CLOSED, DRAIN_DONE ABORTED. -/
theorem test_line_reset_reports :
    let base := withRun (ring [{ board 15#16 .decided with run := some 7 }]) .closing (some 12#16)
    let s : State :=
      { nearTop base 120 4294967294 with
        line := { base.line with drain := some 14#16 }, trimmer := { base.trimmer with ownership := .manual } }
    lineFrames (did (.lineReset .line) s .line 0x09#8 []) =
        [(0x89#8, [0#8]), (0x48#8, [6#8, 7#8, 0#8, 120#8, 0xFF#8]), (0x4A#8, [0#8, 5#8, 16#8, 0#8]),
          (0x4C#8, [7#8, 0#8, 0#8, 10#8, 0#8, 12#8, 0#8, 0#8, 0#8, 0#8, 0#8, 1#8]), (0x4D#8, [1#8, 14#8, 0#8])] ∧
      ((did (.lineReset .line) s .line 0x09#8 []).consolePort.outbound.map fun f => (f.kind, f.body)) =
        [(0x4A#8, [0#8, 5#8, 16#8, 0#8])] ∧
      lineFrames (did (.lineReset .line) (ring []) .line 0x09#8 []) = [(0x89#8, [0#8])] ∧
      (let two : State :=
        { nearTop (withRun (ring ([13#16, 14#16, 15#16].map fun t => { board t .decided with run := some 7 })) .isOpen none)
            120 4294967293 with line := running.line }
      lineFrames (did (.lineReset .line) two .line 0x09#8 []) =
          [(0x89#8, [0#8]), (0x48#8, [6#8, 7#8, 0#8, 120#8, 0xFF#8])] ∧
        two.noticesOfOnes [(7, 120), (7, 120), (7, 120)] =
          [{ kind := 0x48#8, tag := 0#8, body := [6#8, 7#8, 0#8, 120#8, 0xFF#8] }]) := by
  decide +kernel

theorem witness_DrainIsStartedAndTested :
    ((∀ body, (asking running .line 0x1C#8 body).asks .line (request 0x1C#8 body)) ∧ running.line.drain = none) ∧
      (did (.drain .line) (ring [board 18#16 .queued]) .line 0x1C#8 []).line.drain = some 20#16 ∧
      ((did (.drain .line) (ring []) .line 0x1C#8 []).linePort.outbound.map fun f => (f.kind, f.body)) =
        [(0x9C#8, [0#8, 20#8, 0#8]), (0x4D#8, [0#8, 20#8, 0#8])] ∧
      replyTo (.drain .line) State.reset .line 0x1C#8 [] = [2#8] ∧
      replyTo (.drain .line) { running with line := { running.line with drain := some 3#16 } } .line 0x1C#8 [] = [0x0C#8] ∧
      replyTo (.drain .line) running .line 0x1C#8 [0#8] = [1#8] := by
  exact ⟨⟨fun _ => asks_any rfl rfl _ _ _, rfl⟩, by decide +kernel⟩

/-- R165: the last covered record's DISPATCH, then DRAIN_DONE COMPLETE; a record after the drain's serial is not covered, one
at it is. -/
theorem test_drain_completes :
    let b := { board 12#16 .cut with decision := some passDecision, stamp := some [] }
    let s (d : Tag) (bs : List Board) : State :=
      { ring (b :: bs) with line := { running.line with drain := some d }, selection := 2#3 }
    let kinds (u : State) := u.linePort.outbound.map fun f => f.kind
    (kinds ((s 17#16 [board 18#16 .queued]).markerEvent b) = [0x41#8, 0x4D#8] ∧
        ((s 17#16 [board 18#16 .queued]).markerEvent b).line.drain = none) ∧
      (kinds ((s 17#16 [board 17#16 .queued]).markerEvent b) = [0x41#8] ∧
        ((s 17#16 [board 17#16 .queued]).markerEvent b).line.drain = some 17#16) ∧
      (let u : State := { ring [board 20#16 .scanning] with line := { running.line with drain := some 20#16 } }
      lineFrames (u.closeBoard 20#16).1 = [(0x4D#8, [0#8, 20#8, 0#8])] ∧ (u.closeBoard 20#16).1.line.drain = none) := by
  decide +kernel

theorem witness_HeadRequestsActOnTheTable :
    ((∀ k body, (asking running .line k body).asks .line (request k body)) ∧
        running.intake.heads[3 - 1]? = some { absentHead with state := .active, counter := 5 } ∧
        (lineOf .running .retired).intake.heads[3 - 1]? = some { absentHead with state := .retired } ∧
        (running.head 2).state ≠ .retired ∧ (∀ b ∈ running.tracker.ring, b.state ≠ .scanning)) ∧
      replyTo (.headRetire .line) running .line 0x17#8 [4#8] = [3#8] ∧
      replyTo (.headRestore .line) running .line 0x18#8 [0#8] = [3#8] ∧
      replyTo (.headClear .line) running .line 0x19#8 [3#8] = [0#8] ∧
      replyTo (.headRestore .line) running .line 0x18#8 [3#8] = [2#8] ∧
      ((did (.headRestore .line) (lineOf .running .retired) .line 0x18#8 [3#8]).head 3).state = .stale ∧
      did (.headRetire .line) (lineOf .running .retired) .line 0x17#8 [3#8] =
        (asking (lineOf .running .retired) .line 0x17#8 [3#8]).answered .line (request 0x17#8 [3#8]) .ok [] := by
  exact ⟨⟨fun _ _ => asks_any rfl rfl _ _ _, by decide +kernel⟩, by decide +kernel⟩

/-- R32: the head leaves a record being assembled, with its items; the last head in service stops the line, but not in
CONFIGURING. -/
theorem test_retirement :
    let item (source : Nat) : Defect :=
      { kind := .knot, start := 1, stop := 2, size := 1, severity := 1, faces := 0#4, source := source }
    let s := ring [{ board 20#16 .scanning with defects := [item 1, item 2] }]
    let last (state : LineState) : State :=
      { lineOf state .retired with
        intake :=
          { calibrations := [], heads := (List.replicate 12 { absentHead with state := .retired }).set 0 absentHead |>.modify 0
              fun e => { e with state := .active } } }
    let t := did (.headRetire .line) s .line 0x17#8 [1#8]
    let u := did (.headRetire .line) (last .running) .line 0x17#8 [1#8]
    (t.tracker.ring.map fun b => (b.window, b.defects)) = [(some (windowOf [2]), [item 2])] ∧
      (u.line.state = .stopped ∧ u.line.latch = { lugSkip := false, allHeadsLost := true } ∧
        (u.linePort.outbound.map fun f => (f.kind, f.body)) = [(0x97#8, [0#8]), (0x49#8, [1#8, 0#8, 0#8, 2#8])]) ∧
      (did (.headRetire .line) (last .configuring) .line 0x17#8 [1#8]).line.state = .configuring := by
  decide +kernel

theorem witness_SettingsAreReplacedWhole :
    ((∀ k body, (asking running .line k body).asks .line (request k body)) ∧
        running.outfeed.saws[12]? = some { state := .inService, mismatches := 0 }) ∧
      replyTo (.sawState .line) running .line 0x15#8 [13#8, 1#8] = [3#8] ∧
      (did (.sawState .line) running .line 0x15#8 [12#8, 1#8]).saw 12 = { state := .out, mismatches := 0 } ∧
      replyTo (.sawState .line) running .line 0x15#8 [12#8, 2#8] = [1#8] ∧
      replyTo (.binState .line) running .line 0x16#8 [0#8, 1#8] = [3#8] ∧
      replyTo (.binState .line) running .line 0x16#8 [64#8, 1#8] = [3#8] ∧
      (did (.binState .line) running .line 0x16#8 [63#8, 1#8]).outfeed.binFull = 0x8000000000000000#64 ∧
      replyTo (.noticeMask .line) running .line 0x1A#8 [0#8, 2#8] = [1#8] ∧
      replyTo (.noticeMask .line) running .line 0x1A#8 [0#8, 1#8] = [0#8, 0xFF#8, 1#8, 0#8, 1#8] ∧
      replyTo (.reportSelect .line) running .line 0x1B#8 [8#8] = [1#8] ∧
      (did (.reportSelect .line) running .line 0x1B#8 [2#8]).selection = 2#3 := by
  exact ⟨⟨fun _ _ => asks_any rfl rfl _ _ _, rfl⟩, by decide +kernel⟩

/-! ### The rule store: section 4.6 -/

/-- A configuring part with bank A LOADING, its cells and a window as given. -/
def loading (cells : List Cell) (w : Option LoadWindow) : State :=
  { State.reset with rules := { bankA := { state := .loading, cells := cells }, bankB := emptyBank, window := w } }

/-- The window {A, LIMITS, rows 0–2, cols 0–4, COLUMNS, IGNORE} of section 4.6.1, its cursor at a cell. -/
def limitsWindow (order : WindowOrder) (overflow : WindowOverflow) (row col : Nat) : LoadWindow :=
  { bank := .a, table := .limits, firstRow := 0, lastRow := 2, firstCol := 0, lastCol := 4, order := order
    overflow := overflow, row := row, col := col, exhausted := false }

theorem witness_BankOpenAndTableWindow :
    (∀ k body, (asking (loading [] none) .line k body).asks .line (request k body)) ∧
      (did (.bankOpen .line) State.reset .line 0x0A#8 [1#8]).rules.bankB.state = .loading ∧
      replyTo (.bankOpen .line) (withRun running .pending none) .line 0x0A#8 [0#8] = [8#8] ∧
      replyTo (.bankOpen .line) running .line 0x0A#8 [2#8] = [1#8] ∧
      (did (.tableWindow .line) (loading [] none) .line 0x0B#8 [0#8, 0#8, 0#8, 2#8, 0#8, 4#8, 1#8, 0#8]).rules.window =
        some (limitsWindow .columns .ignore 0 0) ∧
      replyTo (.tableWindow .line) (loading [] none) .line 0x0B#8 [0#8, 0#8, 0#8, 8#8, 0#8, 4#8, 1#8, 0#8] = [3#8] ∧
      replyTo (.tableWindow .line) State.reset .line 0x0B#8 [0#8, 0#8, 0#8, 2#8, 0#8, 4#8, 1#8, 0#8] = [2#8] ∧
      replyTo (.tableWindow .line) (loading [] none) .line 0x0B#8 [0#8, 9#8, 0#8, 0#8, 0#8, 0#8, 0#8, 0#8] = [1#8] := by
  exact ⟨fun _ _ => asks_any rfl rfl _ _ _, by decide +kernel⟩

theorem witness_CursorSweepsTheWindow :
    (limitsWindow .rows .ignore 0 0).inTable ∧ (limitsWindow .rows .wrap 2 4).inTable ∧
      (limitsWindow .rows .ignore 0 4).advance = limitsWindow .rows .ignore 1 0 ∧
      (limitsWindow .columns .ignore 2 0).advance = limitsWindow .columns .ignore 0 1 ∧
      (limitsWindow .columns .ignore 2 4).advance = { limitsWindow .columns .ignore 2 4 with exhausted := true } ∧
      (limitsWindow .rows .wrap 2 4).advance = limitsWindow .rows .wrap 0 0 := by
  refine ⟨?_, ?_, by decide +kernel⟩ <;> (unfold LoadWindow.inTable; decide +kernel)

/-- R50, R61: a value is brought into its cell's range and stands in the cursor's cell: a max size of 0 to 400, a count base of
0 to 15. -/
theorem test_put_reads_back :
    let l (row col : Nat) : Load :=
      { window := limitsWindow .rows .ignore row col, cells := [], written := 0, clamped := 0, ignored := 0 }
    let stored (row col v : Nat) := (readCell ((l row col).put v).cells (cellKey .limits row col), ((l row col).put v).clamped)
    (stored 0 0 400 = (400#16, 0) ∧ stored 0 0 401 = (400#16, 1) ∧ stored 0 0 0 = (0#16, 0)) ∧
      (stored 2 3 15 = (15#16, 0) ∧ stored 2 3 65535 = (15#16, 1)) := by
  decide +kernel

/-- R60, R61: the TABLE_DATA of section 4.6.1: written 15, clamped 1, ignored 2, the cursor at (2, 4), exhausted. -/
theorem witness_TableDataWritesThroughTheWindow :
    let body := 17#8 :: [25, 50, 90, 4, 8, 12, 100, 100, 150, 1, 2, 450, 0, 5, 10, 7, 7].flatMap le2
    let s := loading [] (some (limitsWindow .columns .ignore 0 0))
    ((asking s .line 0x0C#8 body).asks .line (request 0x0C#8 body) ∧ (limitsWindow .columns .ignore 0 0).inTable) ∧
      replyTo (.tableData .line) s .line 0x0C#8 body = [0#8, 15#8, 1#8, 2#8, 2#8, 4#8, 1#8] ∧
      (did (.tableData .line) s .line 0x0C#8 body).rules.bankA.cells =
        rowOf .limits 0 0 [25, 4, 100, 1] ++ rowOf .limits 1 0 [50, 8, 100, 2, 5] ++ rowOf .limits 2 0 [90, 12, 150, 15, 10] ∧
      replyTo (.tableData .line) s .line 0x0C#8 [0#8] = [1#8] ∧
      replyTo (.tableData .line) (loading [] none) .line 0x0C#8 [1#8, 0#8, 0#8] = [2#8] := by
  refine ⟨⟨asks_any rfl rfl _ _ _, ?_⟩, by decide +kernel⟩
  unfold LoadWindow.inTable
  decide +kernel

/-- R62, R63, section 4.6.3: a blank NAMES row 2 and a RUN_DIGITS of 7 in STAMP row 4 fail the close. -/
theorem witness_BankCloseChecksTheBank :
    let s := loading workedBank.cells none
    let bad (cells : List Cell) := loading cells none
    ((∀ body, (asking s .line 0x0D#8 body).asks .line (request 0x0D#8 body)) ∧ (s.bank .a).state = .loading) ∧
      (did (.bankClose .line) s .line 0x0D#8 [0#8]).rules.bankA.state = .loaded ∧
      replyTo (.bankClose .line) (bad (workedBank.cells.filter fun c => c.1 / 256 ≠ 4 * 256 + 2)) .line 0x0D#8 [0#8] =
        [9#8, 4#8, 2#8, 0#8, 1#8] ∧
      replyTo (.bankClose .line) (bad (writeCell workedBank.cells (cellKey .stamp 4 1) 7#16)) .line 0x0D#8 [0#8] =
        [9#8, 6#8, 4#8, 1#8, 1#8] ∧
      replyTo (.bankClose .line) (bad (writeCell (writeCell workedBank.cells (cellKey .params 0 3) 13#16) (cellKey .params 0 1) 9#16))
          .line 0x0D#8 [0#8] =
        [9#8, 8#8, 0#8, 1#8, 1#8] ∧
      replyTo (.bankClose .line) (bad (writeCell workedBank.cells (cellKey .params 0 0) 0#16)) .line 0x0D#8 [0#8] =
        [9#8, 8#8, 0#8, 0#8, 1#8] ∧
      replyTo (.bankClose .line) (bad (writeCell workedBank.cells (cellKey .stamp 6 0) 1#16)) .line 0x0D#8 [0#8] =
        [9#8, 6#8, 6#8, 0#8, 1#8] ∧
      replyTo (.bankClose .line) s .line 0x0D#8 [1#8] = [2#8] ∧ replyTo (.bankClose .line) s .line 0x0D#8 [2#8] = [1#8] := by
  exact ⟨⟨fun _ => asks_any rfl rfl _ _ _, rfl⟩, by decide +kernel⟩

theorem witness_ReadingRequestsCarryTheRecord :
    let s : State :=
      { withRun { running with rules := { running.rules with bankA := workedBank } } .isOpen none with
        logs :=
          { running.logs with
            memory :=
              [{ sequence := 0x01020304#32, run := none, length := 500, sed := 300, led := 300, litres := 35, suspect := false
                 overlength := false, unattributed := true }] } }
    ((∀ k body, (asking s .line k body).asks .line (request k body)) ∧ s.findRun 7 = some (runOf .isOpen none) ∧
        (withRun running .closing (some 30#16)).findRun 7 = some (runOf .closing (some 30#16)) ∧
        (s.logs.memory.map fun x => x.sequence).Nodup) ∧
      replyTo (.tableRead .line) s .line 0x0E#8 [0#8, 1#8, 8#8, 7#8, 100#8] =
        [0#8, 6#8, 5#8, 0#8, 0#8, 0#8, 0#8, 0#8, 0#8, 0#8, 0#8, 0#8, 0#8, 0#8, 2#8] ∧
      replyTo (.tableRead .line) s .line 0x0E#8 [0#8, 1#8, 8#8, 13#8, 1#8] = [3#8] ∧
      replyTo (.tableRead .line) s .line 0x0E#8 [0#8, 1#8, 8#8, 7#8, 101#8] = [1#8] ∧
      (replyTo (.tallyRead .line) (withRun running .closing (some 30#16)) .line 0x12#8 [7#8, 0#8, 2#8]).take 10 =
        [0#8, 7#8, 0#8, 0#8, 2#8, 10#8, 0#8, 30#8, 0#8, 1#8] ∧
      replyTo (.tallyRead .line) s .line 0x12#8 [8#8, 0#8, 2#8] = [4#8] ∧
      replyTo (.tallyRead .line) s .line 0x12#8 [7#8, 0#8, 3#8] = [1#8] ∧
      (replyTo (.logQuery .line) s .line 0x13#8 [0#8, 4#8, 3#8, 2#8, 1#8]).take 5 = [0#8, 4#8, 3#8, 2#8, 1#8] ∧
      replyTo (.logQuery .line) s .line 0x13#8 [0#8, 4#8, 3#8, 2#8, 2#8] = [4#8] ∧
      (replyTo (.logQuery .line) s .line 0x13#8 [1#8]).take 2 = [0#8, 1#8] := by
  exact ⟨⟨fun _ _ => asks_any rfl rfl _ _ _, by decide +kernel⟩, by decide +kernel⟩

/-- R155, R185: board litres 7624000 * 25 * 150 / 1000000 = 28590 over 12000 litres: recovery 2382; no litres; the bound. -/
theorem test_tally_sections :
    let r (litres millimetres : Nat) : Run :=
      { runOf .isOpen none with
        counters :=
          (((runOf .isOpen none).counters.set 127 { value := millimetres, saturated := true }).set 130
            { value := litres, saturated := false }).set 107 { value := 513, saturated := false } }
    ((tallySection (r 12000 7624000) .logs).drop 24 = [16#8] ++ le4 28590 ++ le2 2382 ++ [0#8] ∧
        (tallySection (r 0 7624000) .logs).drop 24 = [16#8] ++ le4 28590 ++ le2 0 ++ [1#8] ∧
        ((tallySection (r 1 7624000) .logs).drop 29) = le2 9999 ++ [0#8]) ∧
      (tallySection (r 0 0) .cells).drop 214 = [1#8, 2#8] ∧
      (tallySection (r 0 258) .outcomes).drop 76 = [2#8, 1#8, 0#8, 0#8, 0#8, 0#8, 8#8] := by
  decide +kernel

/-! ### Runs -/

theorem witness_RunRequestsKeepTheTable :
    let s : State := { ring [] with rules := { running.rules with bankA := workedBank } }
    let start (id : Byte) (t : Byte) : List Byte := [id, 0#8, 0#8, 25#8, 0#8, 150#8, 0#8, 0#8, t, 0#8]
    ((∀ k body, (asking s .line k body).asks .line (request k body)) ∧
        (parseStart (start 7#8 21#8)).isSome = true ∧ (parseEnd [7#8, 0#8, 1#8]).isSome = true ∧ (s.bank .a).state = .loaded ∧
        (withRun s .isOpen none).findRun 7 = some (runOf .isOpen none)) ∧
      (did (.runStart .line) s .line 0x0F#8 (start 7#8 21#8)).tally.runs = [{ runOf .pending none with startTag := 21#16 }] ∧
      replyTo (.runStart .line) s .line 0x0F#8 (start 7#8 20#8) = [3#8] ∧
      replyTo (.runStart .line) s .line 0x0F#8 (start 0#8 21#8) = [3#8] ∧
      replyTo (.runStart .line) (withRun s .closed none) .line 0x0F#8 (start 7#8 21#8) = [0x0A#8] ∧
      replyTo (.runStart .line) (ring []) .line 0x0F#8 (start 7#8 21#8) = [2#8] ∧
      ((did (.runEnd .line) (withRun s .isOpen none) .line 0x10#8 [7#8, 0#8, 1#8]).tally.runs.map fun r => (r.state, r.endTag)) =
        [(.closing, some 20#16)] ∧
      ((did (.runEnd .line) (withRun s .isOpen none) .line 0x10#8 [7#8, 0#8, 0#8, 21#8, 0#8]).tally.runs.map fun r =>
        (r.state, r.endTag)) = [(.isOpen, some 21#16)] ∧
      replyTo (.runEnd .line) (withRun s .closing none) .line 0x10#8 [7#8, 0#8, 1#8] = [2#8] ∧
      (did (.runFree .line) (withRun s .closed none) .line 0x11#8 [7#8, 0#8]).tally.runs = [] ∧
      replyTo (.runFree .line) (withRun s .closing none) .line 0x11#8 [7#8, 0#8] = [2#8] := by
  exact ⟨⟨fun _ _ => asks_any rfl rfl _ _ _, by decide +kernel⟩, by decide +kernel⟩

/-- R146: a CLOSING run with no record before the saw line closes, with its report; one with such a record does not. -/
theorem test_closing_part :
    let s (state : BoardState) : State := withRun (ring [{ board 13#16 state with run := some 7 }]) .closing (some 12#16)
    ((s .cut).tally.runs.map fun r => r.id).Nodup ∧
      ((running.lugPart (s .cut) .closing).tally.runs.map fun r => r.state) = [.closed] ∧
      ((running.lugPart (s .cut) .closing).linePort.outbound.map fun f => (f.kind, f.body)) =
        [(0x4C#8, [7#8, 0#8, 0#8, 10#8, 0#8, 12#8, 0#8, 0#8, 0#8, 0#8, 0#8, 0#8])] ∧
      running.lugPart (s .committed) .closing = s .committed := by
  decide +kernel

/-! ### The trimmer's requests -/

theorem witness_OwnershipRequestsMoveTheTrimmer :
    ((∀ o p k body, (asking (owning o) p k body).asks p (request k body)) ∧ running.line.state ≠ .configuring) ∧
      (did (.takeTrimmer .console) (owning .auto) .console 0x1D#8 []).trimmer.ownership = .takePending ∧
      (did (.takeTrimmer .console) (owning (.releasePending .reclaim)) .console 0x1D#8 []).trimmer.ownership = .manual ∧
      replyTo (.takeTrimmer .console) State.reset .console 0x1D#8 [] = [2#8] ∧
      (did (.releaseTrimmer .console) (owning .takePending) .console 0x1E#8 []).trimmer.ownership = .auto ∧
      (did (.reclaimTrimmer .line) (owning .manual) .line 0x14#8 []).trimmer.ownership = .releasePending .reclaim ∧
      ((did (.reclaimTrimmer .line) (owning .manual) .line 0x14#8 []).consolePort.outbound.map fun f => (f.kind, f.body)) =
        [(0x4A#8, [3#8, 2#8, 0xFC#8, 0xFF#8])] := by
  exact ⟨⟨fun _ _ _ _ => asks_any rfl rfl _ _ _, by decide +kernel⟩, by decide +kernel⟩

theorem witness_ManualPatternIsSet :
    ((∀ o body, (asking (owning o) .console 0x1F#8 body).asks .console (request 0x1F#8 body)) ∧
        parsePattern [0#8, 0#8, 3#8, 8#8] = some (.piece 0 3 (.index 8))) ∧
      (did (.manualPattern .console) (owning .manual) .console 0x1F#8 [0#8, 0#8, 3#8, 8#8]).trimmer.pattern =
        .piece 0 3 (.index 8) ∧
      replyTo (.manualPattern .console) (owning .manual) .console 0x1F#8 [0#8, 0#8, 4#8, 8#8] = [3#8] ∧
      replyTo (.manualPattern .console) (owning .auto) .console 0x1F#8 [1#8] = [7#8] ∧
      replyTo (.manualPattern .console) State.reset .console 0x1F#8 [1#8] = [2#8] ∧
      replyTo (.manualPattern .console) (owning .manual) .console 0x1F#8 [3#8] = [1#8] := by
  exact ⟨⟨fun _ _ => asks_any rfl rfl _ _ _, by decide +kernel⟩, by decide +kernel⟩

theorem witness_AttentionClearZeroesTheSum :
    let s (v : Bool) : State :=
      { running with
        trimmer := { running.trimmer with valueLoss := 500, attention := { running.trimmer.attention with valueLoss := v } } }
    ((∀ v p body, (asking (s v) p 0x20#8 body).asks p (request 0x20#8 body)) ∧ (s true).trimmer.attention.valueLoss = true) ∧
      (did (.attentionClear .console) (s true) .console 0x20#8 []).trimmer.valueLoss = 0 ∧
      ((did (.attentionClear .console) (s true) .console 0x20#8 []).consolePort.outbound.map fun f => f.kind) =
        [0xA0#8, 0x4B#8] ∧
      ((did (.attentionClear .console) (s false) .console 0x20#8 []).consolePort.outbound.map fun f => f.kind) = [0xA0#8] ∧
      replyTo (.attentionClear .line) (s true) .line 0x20#8 [] = [0x0D#8] := by
  exact ⟨⟨fun _ _ _ => asks_any rfl rfl _ _ _, rfl⟩, by decide +kernel⟩

/-- R117 to R122, section 7.4's kinds on a board of 1500 mm: saw 2 stands at 1250, saw 3 at 1860. -/
theorem witness_OverrideIsPlacedOrRefused :
    let b := { board 17#16 .decided with bank := some .a }
    let s := working [.idle, .idle, .idle] [{ board 13#16 .committed with decision := some passDecision }, b, board 20#16 .scanning]
    let kinds (u : State) := u.tracker.ring.map fun x => x.override.map fun o => (o.kind, o.status)
    ((∀ p body, (asking s p 0x04#8 body).asks p (request 0x04#8 body)) ∧ (s.tracker.ring.map fun x => x.tag).Nodup ∧
        parseOverride [17#8, 0#8, 1#8, 0#8, 2#8] = some (.place (.setTrim 0 2))) ∧
      kinds (did (.override .console) s .console 0x04#8 [17#8, 0#8, 3#8]) = [none, some (.waste, .none), none] ∧
      kinds (did (.override .line) s .line 0x04#8 [17#8, 0#8, 1#8, 0#8, 2#8]) = [none, some (.setTrim 0 2, .pending), none] ∧
      (did (.override .line) s .line 0x04#8 [17#8, 0#8, 1#8, 0#8, 2#8]).grading.engines =
        [.regrading 17#16 0 2 false, .idle, .idle] ∧
      replyTo (.override .line) s .line 0x04#8 [17#8, 0#8, 1#8, 0#8, 3#8] = [3#8, 17#8, 0#8] ∧
      replyTo (.override .line) s .line 0x04#8 [20#8, 0#8, 4#8] = [5#8, 20#8, 0#8] ∧
      replyTo (.override .line) s .line 0x04#8 [13#8, 0#8, 4#8] = [6#8, 13#8, 0#8, 2#8, 0#8] ∧
      replyTo (.override .line) s .line 0x04#8 [14#8, 0#8, 4#8] = [4#8, 14#8, 0#8] ∧
      replyTo (.override .line) s .line 0x04#8 [17#8, 0#8, 6#8] = [1#8, 17#8, 0#8] ∧
      replyTo (.override .line) State.reset .line 0x04#8 [17#8, 0#8, 5#8] = [2#8, 17#8, 0#8] := by
  exact ⟨⟨fun _ _ => asks_any rfl rfl _ _ _, by decide +kernel⟩, by decide +kernel⟩

/-! ### Rules of the whole machine -/

theorem witness_RefusedRequestsChangeNothing :
    requestOf (.lineStart .line) = some (.line, 0x07#8) ∧ (asking running .line 0x07#8 []).asks .line (request 0x07#8 []) ∧
      did (.lineStart .line) running .line 0x07#8 [] =
        (asking running .line 0x07#8 []).answered .line (request 0x07#8 []) .badState [] :=
  ⟨rfl, asks_any rfl rfl _ _ _, by decide +kernel⟩

theorem witness_LinkFramesDecodeTheirEncoding :
    (Instr.logBegin 0x1234#16 true []).wellFormed = true ∧
      encodeLink (.logBegin 0x1234#16 true []) = some (encodeLinkFrame 0x20#8 0x21#8 0x1234#16 []) ∧
      ([1#8] : List Byte).length ≤ 255 ∧
      (sentFrame .resend 20#16 [1#8]).take 5 = [0#8, 3#8, 20#8, 0#8, 1#8] := by
  decide +kernel

/-- A state that meets every invariant, in which something happens: a HOME pulse waits, with a wrong count. -/
def busy : State :=
  { orderly with
    rules := { running.rules with bankA := { state := .loading, cells := [(cellKey .price 1 1, 5#16)] } }
    tally := { running.tally with runs := [runOf .isOpen none] }
    grading := { engines := [.evaluating 19#16 0#13 false, .idle, .idle], queue := [], regrades := [] } }

theorem witness_BanksStayCanonical : busy.memoryWf ∧ step busy = .next (after (step busy)) :=
  ⟨by unfold State.memoryWf; decide +kernel, step_homePulse_next rfl⟩

theorem witness_StoppedExactlyWhileLatched :
    busy.stopAgrees ∧ step busy = .next (after (step busy)) ∧ (after (step busy)).line.state = .stopped :=
  ⟨by unfold State.stopAgrees; decide +kernel, step_homePulse_next rfl, by decide +kernel⟩

theorem witness_OutboundQueuesNeverOverflow : busy.queuesFit ∧ step busy = .next (after (step busy)) :=
  ⟨by unfold State.queuesFit; decide +kernel, step_homePulse_next rfl⟩

theorem witness_ConfiguringLineIsEmpty :
    let s := { State.reset with draws := 1, pending := [.homePulse] }
    s.configuringEmpty ∧ s.line.state = .configuring ∧ step s = .next (after (step s)) :=
  ⟨by unfold State.configuringEmpty; decide +kernel, rfl, step_homePulse_next rfl⟩

theorem witness_AttentionFollowsTheTables : busy.attentionFollows ∧ step busy = .next (after (step busy)) :=
  ⟨by unfold State.attentionFollows; decide +kernel, step_homePulse_next rfl⟩

/-- A lawful line in production: an OPEN run on a LOADED bank, a COMMITTED record of it with its pattern entry and a DECIDED
one, both counted as scanned; a HOME pulse waits. -/
def lawful : State :=
  { withRun orderly .isOpen none with
    tracker :=
      { orderly.tracker with
        ring :=
          [{ board 14#16 .committed with run := some 7, bank := some .a, decision := some passDecision },
            { board 15#16 .decided with run := some 7, bank := some .a, advisory := some (.piece 0 2 1 30 false false) },
            { board 19#16 .scanning with run := some 7, bank := some .a }] }
    tally :=
      { running.tally with
        runs := [{ runOf .isOpen none with counters := (runOf .isOpen none).counters.set 128 { value := 2, saturated := false } }] }
    rules := { running.rules with bankA := workedBank }
    patterns := [{ tag := 14#16, saws := 0#13, bin := some 0 }] }

theorem witness_runTableLawful : lawful.runTableLawful := by
  unfold State.runTableLawful
  decide +kernel

theorem witness_boardsOwned : lawful.boardsOwned := by
  intro b hb _ id h
  have hr : b.run = some 7 ∧ b.bank = some .a :=
    (by decide +kernel : ∀ b ∈ lawful.tracker.ring, b.run = some 7 ∧ b.bank = some BankName.a) b hb
  obtain rfl : 7 = id := Option.some.inj (hr.1.symm.trans h)
  exact ⟨_, List.mem_singleton.2 rfl, rfl, hr.2, .inl rfl⟩

theorem witness_piecesFit : lawful.piecesFit := by
  refine ⟨by decide +kernel, fun n => by cases n <;> decide +kernel, ?_, ?_, ?_⟩
  · intro w h
    cases h
  · intro i j g h
    cases h
  · have hall : ∀ b ∈ lawful.tracker.ring,
        (b.advisory = none ∨ b.advisory = some (.piece 0 2 1 30 false false)) ∧ b.override = none ∧
          (b.decision = none ∨ b.decision = some passDecision) ∧ (b.state = .committed → b.decision.isSome = true) := by
      decide +kernel
    intro b hb
    obtain ⟨ha, ho, hd, hc⟩ := hall b hb
    refine ⟨⟨?_, ?_⟩, ?_, ?_, hc⟩
    · intro i j g v r c h
      rcases ha with ha | ha <;> rw [ha] at h <;> cases h
      exact ⟨by decide, by decide, fun n hn => by cases hn; decide⟩
    · intro h
      rcases ha with ha | ha <;> rw [ha] at h <;> cases h
    · intro o h
      rw [ho] at h
      cases h
    · intro d h
      rcases hd with hd | hd <;> rw [hd] at h <;> cases h
      exact ⟨fun i j g hw => (by cases hw), fun hw => (by cases hw)⟩

theorem witness_runsBalance : lawful.runsBalance := by
  unfold State.runsBalance
  decide +kernel

theorem witness_patternsFollow : lawful.patternsFollow := by
  unfold State.patternsFollow
  decide +kernel

theorem witness_lawful_ringInOrder : lawful.ringInOrder ∧ lawful.configuringEmpty :=
  ⟨ringInOrder_of rfl (by unfold placedRight LineParams.geometry; decide +kernel),
    by unfold State.configuringEmpty; decide +kernel⟩

/-- R152: the COMMITTED and the DECIDED record make the scanned count of 2. -/
theorem witness_lawful_step :
    step lawful = .next (after (step lawful)) ∧ lawful.defectsFit ∧
      (lawful.tally.runs.map fun r => (r.counter 128).value) = [2] :=
  ⟨step_homePulse_next rfl, by unfold State.defectsFit; decide +kernel, by decide +kernel⟩

theorem witness_CountersAreFlaggedAtTheirMaximum : busy.countersFlagged ∧ step busy = .next (after (step busy)) := by
  refine ⟨?_, step_homePulse_next rfl⟩
  intro r hr k
  obtain rfl : r = runOf .isOpen none := by simpa [busy] using hr
  have h0 : (runOf .isOpen none).counter k = { value := 0, saturated := false } := by
    rw [Run.counter, runOf, List.getD_eq_getElem?_getD, List.getElem?_replicate]
    split <;> rfl
  rw [h0]
  unfold counterTop Config.max16 Config.max32
  split <;> simp

theorem witness_CollectionsStayWithinTheirPlaces :
    busy.capacities ∧ busy.binZeroFree ∧ step busy = .next (after (step busy)) := by
  refine ⟨⟨rfl, rfl, rfl, by decide +kernel, by decide +kernel, by decide +kernel, by decide +kernel, ?_⟩, by unfold State.binZeroFree; decide +kernel, step_homePulse_next rfl⟩
  intro l h
  cases h

theorem witness_NoEngineIdlesWhileWorkWaits : busy.arbiterDone ∧ step busy = .next (after (step busy)) :=
  ⟨by unfold State.arbiterDone; decide +kernel, step_homePulse_next rfl⟩

/-- Two QUEUED records wait in tag order while every engine works. -/
def waiting : State :=
  { ring [board 17#16 .queued, board 19#16 .queued] with
    grading := { engines := List.replicate 3 (.evaluating 18#16 0#13 false), queue := [17#16, 19#16], regrades := [] }
    pending := [.homePulse] }

theorem witness_queue_in_order : waiting.ringInOrder ∧ waiting.configuringEmpty ∧ step waiting = .next (after (step waiting)) := by
  refine ⟨⟨?_, ?_, ?_, ?_, ?_, ?_⟩, by unfold State.configuringEmpty; decide +kernel, step_homePulse_next rfl⟩
  · unfold LineParams.geometry
    decide +kernel
  · decide +kernel
  · unfold placedRight
    decide +kernel
  · decide +kernel
  · intro t ht
    have h : t = 17#16 ∨ t = 19#16 := by simpa [waiting] using ht
    rcases h with rfl | rfl
    · exact ⟨board 17#16 .queued, List.mem_cons_self, rfl, rfl⟩
    · exact ⟨board 19#16 .queued, List.mem_cons_of_mem _ List.mem_cons_self, rfl, rfl⟩
  · decide +kernel

theorem witness_RingStaysInOrder :
    busy.ringInOrder ∧ busy.configuringEmpty ∧ step busy = .next (after (step busy)) :=
  ⟨ringInOrder_of rfl (by unfold placedRight LineParams.geometry; decide +kernel),
    by unfold State.configuringEmpty; decide +kernel, step_homePulse_next rfl⟩

end Sys2Proof.Tests
end

section
/-! SUPPORT. What a lug event keeps, part by part: the advanced serial, home count and eye sample, the configuration, and
the records' tags; and what it only adds to, the outputs. -/

namespace Sys2Proof.Machine

/-! ### What every part of a lug event keeps -/

/-- What an operation inside a lug event keeps. A record it leaves carries the serial or the tag of a record it found. -/
structure State.LugKept (s t : State) : Prop where
  serial : t.tracker.serial = s.tracker.serial
  homeCount : t.tracker.homeCount = s.tracker.homeCount
  synced : t.tracker.synced = s.tracker.synced
  eye : t.tracker.eye = s.tracker.eye
  tags : ∀ b ∈ t.tracker.ring, b.tag = s.tracker.serial ∨ ∃ a ∈ s.tracker.ring, a.tag = b.tag
  config : t.line.config = s.line.config
  noticeMask : t.line.noticeMask = s.line.noticeMask
  lugSkip : t.line.latch.lugSkip = s.line.latch.lugSkip
  timer : t.trimmer.timer = s.trimmer.timer
  binFull : t.outfeed.binFull = s.outfeed.binFull
  outputs : s.outputs <+: t.outputs

theorem State.LugKept.of_fields {s t : State} (tracker : t.tracker = s.tracker := by rfl)
    (config : t.line.config = s.line.config := by rfl) (noticeMask : t.line.noticeMask = s.line.noticeMask := by rfl)
    (lugSkip : t.line.latch.lugSkip = s.line.latch.lugSkip := by rfl) (timer : t.trimmer.timer = s.trimmer.timer := by rfl)
    (binFull : t.outfeed.binFull = s.outfeed.binFull := by rfl)
    (outputs : s.outputs <+: t.outputs := by exact List.prefix_rfl) : s.LugKept t where
  serial := by rw [tracker]
  homeCount := by rw [tracker]
  synced := by rw [tracker]
  eye := by rw [tracker]
  tags b hb := .inr ⟨b, tracker ▸ hb, rfl⟩
  config := config
  noticeMask := noticeMask
  lugSkip := lugSkip
  timer := timer
  binFull := binFull
  outputs := outputs

theorem State.LugKept.refl (s : State) : s.LugKept s := .of_fields

theorem State.LugKept.trans {s t u : State} (h : s.LugKept t) (k : t.LugKept u) : s.LugKept u where
  serial := k.serial.trans h.serial
  homeCount := k.homeCount.trans h.homeCount
  synced := k.synced.trans h.synced
  eye := k.eye.trans h.eye
  tags b hb := by
    rcases k.tags b hb with hs | ⟨a, ha, hab⟩
    · exact .inl (hs.trans h.serial)
    · rw [← hab]
      exact h.tags a ha
  config := k.config.trans h.config
  noticeMask := k.noticeMask.trans h.noticeMask
  lugSkip := k.lugSkip.trans h.lugSkip
  timer := k.timer.trans h.timer
  binFull := k.binFull.trans h.binFull
  outputs := h.outputs.trans k.outputs

/-- A chain of operations, the last one first: its goal fixes the state before it. -/
theorem State.LugKept.after {s t u : State} (k : t.LugKept u) (h : s.LugKept t) : s.LugKept u := h.trans k

theorem State.LugKept.ite {s t u : State} {c : Prop} [Decidable c] (ht : s.LugKept t) (hu : s.LugKept u) :
    s.LugKept (if c then t else u) := by
  split
  · exact ht
  · exact hu

theorem State.LugKept.foldl {α : Type} {f : State → α → State} (h : ∀ (s : State) a, s.LugKept (f s a)) (xs : List α)
    (s : State) : s.LugKept (xs.foldl f s) := by
  induction xs generalizing s with
  | nil => exact .refl s
  | cons x xs ih => exact (h s x).trans (ih _)

/-- The blocks of which `State.LugKept` says nothing. -/
abbrev quietBlocks : List Block :=
  [.intake, .logs, .rules, .grading, .patterns, .tally, .linePort, .consolePort, .selection, .pins, .draws, .pending]

theorem State.LugKept.of_same {s t : State} {l : List Block} (h : s.sameExcept l t)
    (hl : ∀ b ∈ l, b ∈ quietBlocks := by decide) : s.LugKept t := by
  have hq : s.sameExcept quietBlocks t := h.mono hl
  have line : t.line = s.line := hq .line (by decide)
  have trimmer : t.trimmer = s.trimmer := hq .trimmer (by decide)
  have outfeed : t.outfeed = s.outfeed := hq .outfeed (by decide)
  have outputs : t.outputs = s.outputs := hq .outputs (by decide)
  exact .of_fields (hq .tracker (by decide)) (by rw [line]) (by rw [line]) (by rw [line]) (by rw [trimmer])
    (by rw [outfeed]) (by rw [outputs])

/-! ### The shared operations -/

/-- One free choice taken. -/
def State.draw (s : State) : State := { s with draws := s.draws + 1 }

theorem State.draw_same (s : State) : s.sameExcept [.draws] s.draw := s.shuffle_same ([] : List Unit)

theorem State.offer_lugKept (s : State) (p : Port) (k : Byte) (body : List Byte) : s.LugKept (s.offer p k body) :=
  .of_same (s.offer_same p k body)

theorem State.notice_lugKept (s : State) (n : Notice) : s.LugKept (s.notice n) := .of_same (s.notice_same n)

theorem State.emit_lugKept (s : State) (o : Output) : s.LugKept (s.emit o) :=
  .of_fields (outputs := List.prefix_append _ _)

theorem State.mapHead_lugKept (s : State) (h : Nat) (f : Head → Head) : s.LugKept (s.mapHead h f) :=
  .of_same (s.mapHead_same h f)

theorem State.setCalibrations_lugKept (s : State) (cs : List Calibration) : s.LugKept (s.setCalibrations cs) :=
  .of_same (s.setCalibrations_same cs)

theorem State.setGrading_lugKept (s : State) (g : Grading) : s.LugKept (s.setGrading g) := .of_same (s.setGrading_same g)

theorem State.draw_lugKept (s : State) : s.LugKept s.draw := .of_same s.draw_same

theorem State.setRing_lugKept (s : State) (r : List Board)
    (h : ∀ b ∈ r, b.tag = s.tracker.serial ∨ ∃ a ∈ s.tracker.ring, a.tag = b.tag) : s.LugKept (s.setRing r) :=
  { State.LugKept.refl s with tags := h }

theorem State.mapBoard_lugKept (s : State) (t : Tag) (f : Board → Board)
    (hf : ∀ b, b.tag = t → (f b).tag = t := by exact fun _ h => h) : s.LugKept (s.mapBoard t f) := by
  refine s.setRing_lugKept _ fun b hb => ?_
  obtain ⟨a, ha, rfl⟩ := List.mem_map.1 hb
  refine .inr ⟨a, ha, ?_⟩
  split
  · rename_i hat
    rw [hf a hat, hat]
  · rfl

theorem State.testDrain_lugKept (s : State) : s.LugKept s.testDrain := by
  unfold State.testDrain
  split
  · exact .refl s
  · exact .ite (.refl s) ((State.offer_lugKept _ _ _ _).after .of_fields)

theorem State.removeBoard_lugKept (s : State) (t : Tag) : s.LugKept (s.removeBoard t) :=
  (State.testDrain_lugKept _).after (s.setRing_lugKept _ fun b hb => .inr ⟨b, List.mem_of_mem_filter hb, rfl⟩)

/-- The other urgent fault, LUG_SKIP, is raised by a HOME pulse only (R4). -/
theorem State.raiseFault_allHeadsLost_lugKept (s : State) : s.LugKept (s.raiseFault .allHeadsLost) :=
  (State.offer_lugKept _ _ _ _).after ((State.offer_lugKept _ _ _ _).after .of_fields)

theorem State.setAttention_lugKept (s : State) (a : Attention) : s.LugKept (s.setAttention a) :=
  .ite (.refl s) ((State.offer_lugKept _ _ _ _).after .of_fields)

theorem State.refreshAttention_lugKept (s : State) : s.LugKept s.refreshAttention := s.setAttention_lugKept _

theorem State.clearValueLoss_lugKept (s : State) : s.LugKept s.clearValueLoss :=
  (State.setAttention_lugKept _ _).after .of_fields

theorem State.accountLoss_lugKept (s : State) (a : Option Advisory) (n : Nat) : s.LugKept (s.accountLoss a n) := by
  unfold State.accountLoss
  split
  · exact .ite ((State.setAttention_lugKept _ _).after .of_fields) .of_fields
  · exact .refl s

/-! ### The grading unit -/

theorem State.takeBoard_lugKept (s : State) (k : Nat) : s.LugKept (s.takeBoard k) := by
  unfold State.takeBoard
  split
  · exact .refl s
  · exact (State.mapBoard_lugKept _ _ _).after (s.setGrading_lugKept _)

theorem State.takeRegrade_lugKept (s : State) (k : Nat) : s.LugKept (s.takeRegrade k) := by
  unfold State.takeRegrade
  split
  · exact .refl s
  · exact s.setGrading_lugKept _

theorem State.arbitrateOnce_lugKept (s : State) : s.LugKept s.arbitrateOnce := by
  unfold State.arbitrateOnce
  split
  · exact .refl s
  · exact .ite (s.takeBoard_lugKept _) (s.takeRegrade_lugKept _)

theorem State.arbitrate_lugKept (s : State) : s.LugKept s.arbitrate :=
  (State.arbitrateOnce_lugKept _).after ((State.arbitrateOnce_lugKept _).after (State.arbitrateOnce_lugKept s))

theorem State.enqueueBoard_lugKept (s : State) (t : Tag) : s.LugKept (s.enqueueBoard t) :=
  (State.arbitrate_lugKept _).after (s.setGrading_lugKept _)

theorem State.abandonBoard_lugKept (s : State) (t : Tag) : s.LugKept (s.abandonBoard t) :=
  (State.arbitrate_lugKept _).after ((State.setGrading_lugKept _ _).after (s.setGrading_lugKept _))

/-! ### The works of the scan intake -/

theorem State.keepBoard_lugKept (s : State) (b : Board) (w : List HeadView) : s.LugKept (s.keepBoard b w) := by
  have counted : s.LugKept (s.countScanned b.run).1 := .of_same (s.countScanned_same _)
  unfold State.keepBoard
  dsimp only
  split
  · refine .ite ((State.notice_lugKept _ _).after ?_) ?_ <;>
      exact (State.mapBoard_lugKept _ _ _).after counted
  · exact (State.enqueueBoard_lugKept _ _).after ((State.mapBoard_lugKept _ _ _).after counted)

theorem State.closeBoard_lugKept (s : State) (t : Tag) : s.LugKept (s.closeBoard t).1 := by
  unfold State.closeBoard
  split
  · exact .refl s
  · split
    · exact (State.draw_lugKept _).after
        ((State.setCalibrations_lugKept _ _).after (.ite (s.keepBoard_lugKept _ _) (s.removeBoard_lugKept t)))
    · exact .refl s

theorem Board.withoutHead_tag (h : Nat) (b : Board) : (b.withoutHead h).tag = b.tag := by
  unfold Board.withoutHead
  split <;> rfl

theorem State.leaveCalibration_lugKept (s : State) (h : Nat) : s.LugKept (s.leaveCalibration h) :=
  .of_same (s.leaveCalibration_same h)

theorem State.retireHead_lugKept (s : State) (h : Nat) (m : Bool) : s.LugKept (s.retireHead h m).1 := by
  refine (State.draw_lugKept _).after ((State.setRing_lugKept _ _ fun b hb => ?_).after
    ((State.refreshAttention_lugKept _).after ((State.leaveCalibration_lugKept _ _).after (s.mapHead_lugKept _ _))))
  obtain ⟨a, ha, rfl⟩ := List.mem_map.1 hb
  exact .inr ⟨a, ha, (a.withoutHead_tag h).symm⟩

theorem State.settleHead_lugKept (s : State) (h : Nat) (o : CalOutcome) : s.LugKept (s.settleHead h o).1 := by
  cases o with
  | good =>
    exact (State.refreshAttention_lugKept _).after ((State.mapHead_lugKept _ _ _).after (s.leaveCalibration_lugKept h))
  | disturbed | failed => exact s.leaveCalibration_lugKept h

theorem State.missHead_lugKept (s : State) (h : Nat) : s.LugKept (s.missHead h).1 := by
  unfold State.missHead
  dsimp only
  split <;> exact s.mapHead_lugKept _ _

theorem State.work_lugKept (s : State) (w : Work) : s.LugKept (s.work w).1 := by
  cases w with
  | close t => exact s.closeBoard_lugKept t
  | closeIfComplete t =>
    simp only [State.work]
    split
    · exact s.closeBoard_lugKept t
    · exact .refl s
  | miss h => exact s.missHead_lugKept h
  | settle h o => exact s.settleHead_lugKept h o
  | retire h m => exact s.retireHead_lugKept h m
  | retired h m lost =>
    have told : s.LugKept (if m then s.notice (.headRetired h) else s) := .ite (s.notice_lugKept _) (.refl s)
    exact .ite ((State.raiseFault_allHeadsLost_lugKept _).after told) told
  | poisonNotice h t => exact .ite (.refl s) ((State.notice_lugKept _ _).after (s.mapHead_lugKept _ _))
  | closeCalibration serial => exact (State.draw_lugKept _).after (s.setCalibrations_lugKept _)

theorem runWorks_lugKept (n : Nat) (ws : List Work) (s : State) : s.LugKept (runWorks n ws s) := by
  induction n generalizing ws s with
  | zero => exact .refl s
  | succ n ih =>
    cases ws with
    | nil => exact .refl s
    | cons w ws => exact (ih _ _).after (s.work_lugKept w)

theorem State.works_lugKept (s : State) (ws : List Work) : s.LugKept (s.works ws) := runWorks_lugKept _ _ _

/-! ### The seven parts -/

theorem State.createBoard_lugKept (s : State) : s.LugKept s.createBoard := by
  refine s.setRing_lugKept _ fun b hb => ?_
  rcases List.mem_append.1 hb with hb | hb
  · exact .inr ⟨b, hb, rfl⟩
  · exact .inl (by rw [List.mem_singleton.1 hb]; rfl)

theorem State.scanEvent_lugKept (s : State) : s.LugKept s.scanEvent :=
  (State.works_lugKept _ _).after ((State.emit_lugKept _ _).after
    ((State.LugKept.of_same (State.mapRuns_same _ _ _)).after
      ((State.createBoard_lugKept _).after (.of_same s.runSwitch_same))))

theorem State.goStale_lugKept (s : State) (h : Nat) : s.LugKept (s.goStale h) :=
  .ite ((State.refreshAttention_lugKept _).after ((State.notice_lugKept _ _).after (s.mapHead_lugKept _ _))) (.refl s)

theorem State.tickCounters_lugKept (before : List Head) (s : State) : s.LugKept (s.tickCounters before) :=
  (State.LugKept.foldl State.goStale_lugKept _ _).after ((State.draw_lugKept _).after .of_fields)

theorem State.chooseCalibration_lugKept (s : State) : s.LugKept s.chooseCalibration := by
  unfold State.chooseCalibration
  dsimp only
  split
  · exact .ite ((State.setCalibrations_lugKept _ _).after
      ((State.LugKept.foldl (fun x h => x.mapHead_lugKept h _) _ _).after (s.emit_lugKept _))) (.refl s)
  · exact .refl s

theorem State.reportOwner_lugKept (s : State) (c : OwnerCause) (t : Tag) : s.LugKept (s.reportOwner c t) :=
  .of_same (s.reportOwner_same c t)

theorem State.resolveOwnership_lugKept (s : State) : s.LugKept s.resolveOwnership := by
  unfold State.resolveOwnership
  split
  · exact .refl s
  · exact .refl s
  · exact (State.reportOwner_lugKept _ _ _).after .of_fields
  · exact (State.clearValueLoss_lugKept _).after ((State.reportOwner_lugKept _ _ _).after .of_fields)

theorem State.reportCommit_lugKept (s : State) (b : Board) : s.LugKept (s.reportCommit b) :=
  (State.offer_lugKept _ _ _ _).after (.ite (s.offer_lugKept _ _ _) (.refl s))

theorem State.handCommit_lugKept (s : State) (b : Board) (k : Commitment) : s.LugKept (s.handCommit b k) := by
  have told : ∀ (u : State) (c : Bool) (n : Notice), u.LugKept (if c then u.notice n else u) := fun u _ n =>
    .ite (u.notice_lugKept n) (.refl u)
  have noticed := (told _ k.decision.flags.truncated (.stampTruncated b.tag)).after
    ((told _ k.late (.lateFallback b.tag)).after (s.reportCommit_lugKept b))
  exact .ite ((State.accountLoss_lugKept _ _ _).after noticed) noticed

theorem State.enqueuePattern_lugKept (s : State) (e : PatternEntry) : s.LugKept (s.enqueuePattern e) :=
  .ite .of_fields .of_fields

theorem State.commitBoard_lugKept (s : State) (b : Board) : s.LugKept (s.commitBoard b) :=
  (State.handCommit_lugKept _ _ _).after ((State.enqueuePattern_lugKept _ _).after
    ((State.abandonBoard_lugKept _ _).after (s.mapBoard_lugKept _ _)))

theorem State.horizonEvent_lugKept (s : State) : s.LugKept s.horizonEvent := by
  have resolved := s.resolveOwnership_lugKept
  unfold State.horizonEvent
  dsimp only
  split
  · exact resolved
  · rename_i b _
    cases b.state with
    | queued | evaluating | decided => exact (State.commitBoard_lugKept _ _).after resolved
    | scanning | committed | cut => exact resolved

theorem State.sampleSaws_lugKept (s : State) (before : Option Applied) (t : Option Tag) :
    s.LugKept (s.sampleSaws before t) :=
  (State.refreshAttention_lugKept _).after
    ((State.LugKept.foldl (fun x k => x.notice_lugKept (.sawFault k t)) _ _).after .of_fields)

theorem State.outputBin_lugKept (s : State) (n : Option Nat) : s.LugKept (s.outputBin n) := by
  cases n with
  | none => exact .refl s
  | some n => exact (State.emit_lugKept _ _).after .of_fields

theorem State.sawLineEvent_lugKept (s : State) (b : Board) : s.LugKept (s.sawLineEvent b) := by
  have cut := s.mapBoard_lugKept b.tag (fun _ => b.cutWith s.config.sn s.pins.feedback (fallbackText (s.boardBank b)))
    fun _ _ => rfl
  exact (State.mapBoard_lugKept _ _ _).after (.after .of_fields
    ((State.outputBin_lugKept _ _).after ((State.LugKept.of_same (State.tallyBoard_same _ _ _)).after cut)))

theorem State.sawLine_lugKept (s : State) (before : Option Applied) : s.LugKept (s.sawLine before) := by
  unfold State.sawLine
  split
  · exact s.sampleSaws_lugKept _ _
  · exact .ite ((State.sawLineEvent_lugKept _ _).after (s.sampleSaws_lugKept _ _)) (s.sampleSaws_lugKept _ _)

theorem State.markerEvent_lugKept (s : State) (b : Board) : s.LugKept (s.markerEvent b) := by
  have marked := s.mapBoard_lugKept b.tag (fun _ => { b with unmarked := (markBoard s.pins.markerReady b).1 })
    fun _ _ => rfl
  refine (State.removeBoard_lugKept _ _).after (.after (.ite (State.offer_lugKept _ _ _ _) (.refl _)) ?_)
  split
  · exact (State.emit_lugKept _ _).after marked
  · exact marked

theorem State.marker_lugKept (s : State) : s.LugKept s.marker := by
  unfold State.marker
  split
  · exact .refl s
  · exact .ite (s.markerEvent_lugKept _) (.refl s)

theorem State.outfeedPart_lugKept (s : State) (before : Option Applied) : s.LugKept (s.outfeedPart before) := by
  have marked := (State.marker_lugKept _).after (s.sawLine_lugKept before)
  exact .after .of_fields marked

theorem State.lugPart_lugKept (before s : State) (p : LugPart) : s.LugKept (before.lugPart s p) := by
  cases p with
  | scan => exact s.scanEvent_lugKept
  | counters => exact s.tickCounters_lugKept _
  | calibrate => exact s.chooseCalibration_lugKept
  | window => exact s.works_lugKept _
  | horizon => exact s.horizonEvent_lugKept
  | outfeed => exact s.outfeedPart_lugKept _
  | closing => exact .of_same (s.closeRuns_same _ _)

end Sys2Proof.Machine
end

section
/-! SUPPORT. What the scan event and the window close come to where the works they start set nothing further off, and
LUG_EVENT put together from its parts. -/

namespace Sys2Proof.Machine

/-! ### Free orders -/

theorem insertAt_perm {α : Type} (n : Nat) (x : α) (l : List α) : (insertAt n x l).Perm (x :: l) := by
  induction l generalizing n with
  | nil => exact .refl _
  | cons y ys ih =>
    cases n with
    | zero => exact .refl _
    | succ n => exact ((ih n).cons y).trans (.swap x y ys)

theorem permuteBy_perm {α : Type} (n : Nat) (l : List α) : (permuteBy n l).Perm l := by
  induction l generalizing n with
  | nil => exact .refl _
  | cons x xs ih => exact (insertAt_perm _ x _).trans ((ih _).cons x)

theorem permuteBy_map {α β : Type} (f : α → β) (n : Nat) (l : List α) : permuteBy n (l.map f) = (permuteBy n l).map f := by
  have insert : ∀ (m : Nat) (x : α) (ys : List α), insertAt m (f x) (ys.map f) = (insertAt m x ys).map f := by
    intro m x ys
    induction ys generalizing m with
    | nil => rfl
    | cons y ys ih =>
      cases m with
      | zero => rfl
      | succ m => exact congrArg (f y :: ·) (ih m)
  induction l generalizing n with
  | nil => rfl
  | cons x xs ih => simp only [List.map_cons, permuteBy, List.length_map, ih, insert]

/-! ### The scan event -/

/-- R144: a run at the switch: the OPEN one superseded, the PENDING one opened. -/
def Run.switchAt (serial : Tag) (r : Run) : Run :=
  if r.state = .isOpen then r.supersede serial else if r.state = .pending then { r with state := .isOpen } else r

/-- R144: the run table after the switch that comes before the new record. -/
def State.switchedRuns (s : State) : List Run :=
  match s.tally.runs.find? (fun r => r.state == .pending) with
  | none => s.tally.runs
  | some p => if p.startTag = s.tracker.serial then s.tally.runs.map (Run.switchAt s.tracker.serial) else s.tally.runs

/-- R144: a run after the new record, CLOSING if it was OPEN and ends at the serial. -/
def Run.endAt (serial : Tag) (r : Run) : Run :=
  if r.state = .isOpen ∧ r.endTag = some serial then { r with state := .closing } else r

theorem State.runSwitch_eq (s : State) : s.runSwitch = s.setRuns s.switchedRuns := by
  unfold State.runSwitch State.pendingRun State.switchedRuns
  cases s.tally.runs.find? fun r => r.state == .pending with
  | none => rfl
  | some p =>
    dsimp only
    split
    · refine congrArg s.setRuns (List.map_map.trans (List.map_congr_left fun r _ => ?_))
      cases hr : r.state <;> simp [Run.switchAt, Run.supersede, hr]
    · rfl

theorem State.endAtSerial_eq (s : State) : s.endAtSerial = s.setRuns (s.tally.runs.map (Run.endAt s.tracker.serial)) :=
  congrArg s.setRuns (List.map_congr_left fun r _ => by simp [Run.endAt])

/-- The record of a scan event, for the run that is OPEN after the switch (R10). -/
def State.scanRecord (s : State) : Board :=
  newBoard s.tracker.serial (s.switchedRuns.find? fun r => r.state == .isOpen) (s.openWindow s.tracker.serial)

/-- A scan event's state before the works that an empty expected set starts. -/
def State.scanned (s : State) : State :=
  ((s.setRing (s.tracker.ring ++ [s.scanRecord])).setRuns (s.switchedRuns.map (Run.endAt s.tracker.serial))).sendLink
    .lugMark s.tracker.serial []

theorem State.scanEvent_eq (s : State) : s.scanEvent = s.scanned.works [.closeIfComplete s.tracker.serial] := by
  unfold State.scanEvent
  rw [State.endAtSerial_eq, State.runSwitch_eq]
  rfl

/-- R18: the LUG_MARK goes out once; the works put nothing out. -/
theorem State.scanEvent_outputs (s : State) :
    s.scanEvent.outputs = s.outputs ++ [.link (sentFrame .lugMark s.tracker.serial [])] := by
  rw [State.scanEvent_eq]
  exact State.works_same _ _ .outputs (by decide)

theorem State.windowComplete_openWindow (s : State) (t : Tag) :
    windowComplete (s.openWindow t) = true ↔ ∀ k < Config.headCount, s.expects t (k + 1) = false := by
  simp [windowComplete, State.openWindow, blankView]

theorem State.windowKept_openWindow (s : State) (t : Tag) : windowKept (s.openWindow t) = false := by
  simp [windowKept, State.openWindow, blankView]

/-- Where no older record carries the serial, the works wait exactly for the new one. -/
theorem State.serial_mem_completeTags_scanned {s : State} (hfresh : ∀ b ∈ s.tracker.ring, b.tag ≠ s.tracker.serial) :
    s.tracker.serial ∈ s.scanned.completeTags ↔ ∀ k < Config.headCount, s.expects s.tracker.serial (k + 1) = false := by
  rw [← State.windowComplete_openWindow]
  have ring : s.scanned.tracker.ring = s.tracker.ring ++ [s.scanRecord] := rfl
  constructor
  · intro h
    obtain ⟨b, hb, htag⟩ := List.mem_map.1 h
    obtain ⟨hmem, hcomplete⟩ := List.mem_filter.1 hb
    rw [ring] at hmem
    rcases List.mem_append.1 hmem with hold | hnew
    · exact absurd htag (hfresh b hold)
    · rw [List.mem_singleton.1 hnew] at hcomplete
      simpa [State.scanRecord, newBoard] using hcomplete
  · intro h
    refine List.mem_map.2 ⟨s.scanRecord, List.mem_filter.2 ⟨by rw [ring]; simp, ?_⟩, rfl⟩
    simpa [State.scanRecord, newBoard] using h

/-! ### Works that set nothing off -/

theorem runWorks_nil (n : Nat) (s : State) : runWorks n [] s = s := by cases n <;> rfl

/-- R30: with no calibration for a serial nothing is held to be settled at its close. -/
theorem State.heldSettles_eq_nil {s : State} {t : Tag} (h : ∀ c ∈ s.intake.calibrations, c.serial ≠ t) (kept : Bool) :
    s.heldSettles t kept = [] := by
  have none : (s.intake.calibrations.filter fun c => c.serial = t) = [] := by simpa using h
  simp [State.heldSettles, none]

theorem State.closeCalibration_of_none {s : State} {t : Tag} (h : ∀ c ∈ s.intake.calibrations, c.serial ≠ t) :
    s.closeCalibration t = (s.draw, []) := by
  have none : (s.intake.calibrations.filter fun c => c.serial = t) = [] := by simpa using h
  have all : (s.intake.calibrations.filter fun c => c.serial ≠ t) = s.intake.calibrations := by simpa using h
  simp only [State.closeCalibration, none, all]
  rfl

theorem State.works_of_done {s u : State} {w : Work} (h : s.work w = (u, [])) : s.works [w] = u := by
  obtain ⟨n, hn⟩ : ∃ n, s.workFuel = n + 1 := ⟨64 * s.tracker.ring.length + 127, by unfold State.workFuel; omega⟩
  simp [State.works, hn, runWorks, h, runWorks_nil]

/-! ### The close of a record -/

theorem State.findBoard_of_mem {s : State} {b : Board} (hnodup : (s.tracker.ring.map fun x => x.tag).Nodup)
    (hb : b ∈ s.tracker.ring) : s.findBoard b.tag = some b := by
  have found : (s.findBoard b.tag).isSome := List.find?_isSome.2 ⟨b, hb, by simp⟩
  obtain ⟨a, ha⟩ := Option.isSome_iff_exists.1 found
  have htag : a.tag = b.tag := by simpa using List.find?_some ha
  rw [ha, List.inj_on_of_nodup_map hnodup (List.mem_of_find?_eq_some ha) hb htag]

/-- A SCANNING record dropped or kept at its close, and its serial's calibration told (R23, R29). -/
def State.closedRecord (s : State) (b : Board) (w : List HeadView) : State :=
  (if windowKept w then s.keepBoard b w else s.removeBoard b.tag).noteAssembly b.tag (windowKept w)

theorem State.closeBoard_of_scanning {s : State} {b : Board} {w : List HeadView} (hb : s.findBoard b.tag = some b)
    (hs : b.state = .scanning) (hw : b.window = some w) (hc : ∀ c ∈ s.intake.calibrations, c.serial ≠ b.tag) :
    s.closeBoard b.tag =
      ((s.closedRecord b w).draw,
        permuteBy (Config.headOrder (s.closedRecord b w).draws) ((missingHeads w).map Work.miss)) := by
  unfold State.closeBoard
  rw [hb]
  simp only [hs, hw, State.heldSettles_eq_nil hc, List.append_nil]
  rfl

theorem State.closeBoard_of_not_scanning {s : State} {t : Tag}
    (h : ∀ b ∈ s.tracker.ring, b.tag = t → b.state ≠ .scanning) : s.closeBoard t = (s, []) := by
  unfold State.closeBoard
  split
  · rfl
  · rename_i b hb
    split
    · rename_i hs _
      exact absurd hs (h b (List.mem_of_find?_eq_some hb) (by simpa using List.find?_some hb))
    · rfl

/-- A close leaves the head table; what it tells the calibrations leaves their serials. -/
theorem State.closedRecord_intake (s : State) (b : Board) (w : List HeadView) :
    (s.closedRecord b w).intake.heads = s.intake.heads ∧
      ∀ c ∈ (s.closedRecord b w).intake.calibrations, ∃ d ∈ s.intake.calibrations, d.serial = c.serial := by
  have kept : (if windowKept w then s.keepBoard b w else s.removeBoard b.tag).intake = s.intake := by
    split
    · exact s.keepBoard_same b w .intake (by decide)
    · exact s.removeBoard_same b.tag .intake (by decide)
  refine ⟨by rw [← kept]; rfl, fun c hc => ?_⟩
  obtain ⟨d, hd, rfl⟩ := List.mem_map.1 hc
  refine ⟨d, by rwa [kept] at hd, ?_⟩
  split <;> rfl

theorem State.closeBoard_heads {s : State} {b : Board} {w : List HeadView} (hb : s.findBoard b.tag = some b)
    (hs : b.state = .scanning) (hw : b.window = some w) (hc : ∀ c ∈ s.intake.calibrations, c.serial ≠ b.tag) :
    (s.closeBoard b.tag).1.intake.heads = s.intake.heads := by
  rw [State.closeBoard_of_scanning hb hs hw hc]
  exact (s.closedRecord_intake b w).1

theorem State.closeBoard_calibrations {s : State} {b : Board} {w : List HeadView} (hb : s.findBoard b.tag = some b)
    (hs : b.state = .scanning) (hw : b.window = some w) (hc : ∀ c ∈ s.intake.calibrations, c.serial ≠ b.tag) :
    ∀ c ∈ (s.closeBoard b.tag).1.intake.calibrations, c.serial ≠ b.tag := by
  rw [State.closeBoard_of_scanning hb hs hw hc]
  intro c hcm
  obtain ⟨d, hd, hdc⟩ := (s.closedRecord_intake b w).2 c hcm
  exact hdc ▸ hc d hd

/-! ### The misses of a close -/

theorem headsWhere_eq_nil {p : HeadView → Bool} {w : List HeadView} (h : ∀ v ∈ w, p v = false) (n : Nat) :
    headsWhere p n w = [] := by
  induction w generalizing n with
  | nil => rfl
  | cons v vs ih => simp [headsWhere, h v, ih fun u hu => h u (List.mem_cons_of_mem _ hu)]

theorem mem_headsWhere {p : HeadView → Bool} {w : List HeadView} {n h : Nat} :
    h ∈ headsWhere p n w ↔ ∃ k v, w[k]? = some v ∧ h = n + k ∧ p v = true := by
  induction w generalizing n with
  | nil => simp [headsWhere]
  | cons v vs ih =>
    have step : h ∈ headsWhere p n (v :: vs) ↔ (h = n ∧ p v = true) ∨ h ∈ headsWhere p (n + 1) vs := by
      by_cases hv : p v = true <;> simp [headsWhere, hv]
    rw [step, ih]
    constructor
    · rintro (⟨rfl, hv⟩ | ⟨k, u, hu, rfl, hp⟩)
      · exact ⟨0, v, rfl, rfl, hv⟩
      · exact ⟨k + 1, u, hu, by omega, hp⟩
    · rintro ⟨k, u, hu, rfl, hp⟩
      cases k with
      | zero => exact .inl ⟨rfl, by cases hu; exact hp⟩
      | succ k => exact .inr ⟨k, u, hu, by omega, hp⟩

theorem headsWhere_nodup (p : HeadView → Bool) (w : List HeadView) (n : Nat) : (headsWhere p n w).Nodup := by
  induction w generalizing n with
  | nil => exact .nil
  | cons v vs ih =>
    unfold headsWhere
    split
    · refine List.nodup_cons.2 ⟨fun h => ?_, ih _⟩
      obtain ⟨k, u, -, hk, -⟩ := mem_headsWhere.1 h
      omega
    · exact ih _

theorem headsWhere_length_le (p : HeadView → Bool) (w : List HeadView) (n : Nat) :
    (headsWhere p n w).length ≤ w.length := by
  induction w generalizing n with
  | nil => exact Nat.le_refl _
  | cons v vs ih =>
    have := ih (n + 1)
    unfold headsWhere
    split <;> simp <;> omega

/-- R31: a head is missing when it is expected and has neither a good report nor a POISON zone. -/
theorem mem_missingHeads {w : List HeadView} {h : Nat} :
    h ∈ missingHeads w ↔
      (viewOf w h).expected = true ∧ ((viewOf w h).outcome = .none ∨ (viewOf w h).outcome = .resendSent) := by
  unfold missingHeads
  rw [mem_headsWhere]
  cases h with
  | zero => simp [viewOf, blankView]; omega
  | succ k =>
    have view : viewOf w (k + 1) = (w[k]?).getD blankView := by simp [viewOf]
    rw [view]
    constructor
    · rintro ⟨j, v, hv, hk, hp⟩
      obtain rfl : k = j := by omega
      simpa [hv] using hp
    · intro hm
      cases hv : w[k]? with
      | none => simp [hv, blankView] at hm
      | some v => exact ⟨k, v, hv, by omega, by simpa [hv] using hm⟩

/-- A miss that is not the head's third (R31). -/
def State.addMiss (s : State) (h : Nat) : State := s.mapHead h fun e => { e with misses := (s.head h).misses + 1 }

theorem State.missHead_of_lt {s : State} {h : Nat} (hm : (s.head h).misses < 2) : s.missHead h = (s.addMiss h, []) :=
  if_neg (by omega)

theorem State.head_succ (s : State) (k : Nat) : s.head (k + 1) = (s.intake.heads[k]?).getD absentHead := by
  simp [State.head]

theorem State.addMiss_heads (s : State) (h k : Nat) :
    (s.addMiss h).intake.heads[k]? =
      (s.intake.heads[k]?).map fun e => if k + 1 = h then { e with misses := e.misses + 1 } else e := by
  cases h with
  | zero => simp [State.addMiss, State.mapHead]
  | succ j =>
    simp only [State.addMiss, State.mapHead, State.head_succ, Nat.add_one_ne_zero, if_false, Nat.add_sub_cancel,
      List.getElem?_modify]
    by_cases hk : k = j
    · subst hk
      cases s.intake.heads[k]? <;> simp
    · simp [hk, Ne.symm hk]

theorem State.addMiss_head_of_ne (s : State) {g h : Nat} (hg : g ≠ h) : (s.addMiss h).head g = s.head g := by
  cases g with
  | zero => rfl
  | succ k => simp [State.head_succ, State.addMiss_heads, hg]

theorem State.foldl_addMiss_same (s : State) (hs : List Nat) : s.sameExcept [.intake] (hs.foldl State.addMiss s) :=
  State.sameExcept.foldl (fun s h => s.mapHead_same h _) hs s

theorem State.foldl_addMiss_calibrations (s : State) (hs : List Nat) :
    (hs.foldl State.addMiss s).intake.calibrations = s.intake.calibrations := by
  induction hs generalizing s with
  | nil => rfl
  | cons h hs ih =>
    rw [List.foldl_cons, ih]
    cases h <;> rfl

/-- Each head of a list without repetition takes one miss, and no other head does. -/
theorem State.foldl_addMiss_heads {hs : List Nat} (hnodup : hs.Nodup) (s : State) (k : Nat) :
    (hs.foldl State.addMiss s).intake.heads[k]? =
      (s.intake.heads[k]?).map fun e => if k + 1 ∈ hs then { e with misses := e.misses + 1 } else e := by
  induction hs generalizing s with
  | nil => simp
  | cons h hs ih =>
    obtain ⟨hout, hnodup⟩ := List.nodup_cons.1 hnodup
    rw [List.foldl_cons, ih hnodup, State.addMiss_heads, Option.map_map]
    refine congrArg (fun f => (s.intake.heads[k]?).map f) (funext fun e => ?_)
    by_cases hk : k + 1 = h
    · simp [hk, hout]
    · simp [hk]

/-- Misses that retire no head are worked through one after the other. -/
theorem runWorks_misses {hs : List Nat} (hnodup : hs.Nodup) {s : State} (hm : ∀ h ∈ hs, (s.head h).misses < 2) (n : Nat)
    (ws : List Work) :
    runWorks (n + hs.length) (hs.map Work.miss ++ ws) s = runWorks n ws (hs.foldl State.addMiss s) := by
  induction hs generalizing s with
  | nil => rfl
  | cons h hs ih =>
    obtain ⟨hout, hnodup⟩ := List.nodup_cons.1 hnodup
    have first : s.work (.miss h) = (s.addMiss h, []) := State.missHead_of_lt (hm h List.mem_cons_self)
    have others : ∀ g ∈ hs, ((s.addMiss h).head g).misses < 2 := by
      intro g hg
      have hne : g ≠ h := fun e => hout (e ▸ hg)
      rw [State.addMiss_head_of_ne s hne]
      exact hm g (List.mem_cons_of_mem _ hg)
    have unfolded : runWorks (n + (h :: hs).length) ((h :: hs).map Work.miss ++ ws) s =
        runWorks (n + hs.length) (hs.map Work.miss ++ ws) (s.addMiss h) := by
      simp only [List.length_cons, ← Nat.add_assoc, List.map_cons, List.cons_append, runWorks, first, List.nil_append]
    rw [unfolded, ih hnodup others, List.foldl_cons]

/-! ### The scan event and the window close, with no calibration for the serial -/

theorem State.removeBoard_tracker (s : State) (t : Tag) :
    (s.removeBoard t).tracker = { s.tracker with ring := s.tracker.ring.filter fun b => b.tag ≠ t } :=
  State.testDrain_same _ .tracker (by decide)

theorem State.scanEvent_of_expected {s : State} (hfresh : ∀ b ∈ s.tracker.ring, b.tag ≠ s.tracker.serial) {k : Nat}
    (hk : k < Config.headCount) (he : s.expects s.tracker.serial (k + 1) = true) : s.scanEvent = s.scanned := by
  have waits : s.tracker.serial ∉ s.scanned.completeTags := fun h => by
    have := (State.serial_mem_completeTags_scanned hfresh).1 h k hk
    simp [he] at this
  rw [State.scanEvent_eq]
  exact State.works_of_done (if_neg waits)

/-- R18: with no head expected the new record closes at once and is dropped. -/
theorem State.scanEvent_of_none_expected {s : State} (hfresh : ∀ b ∈ s.tracker.ring, b.tag ≠ s.tracker.serial)
    (hnone : ∀ k < Config.headCount, s.expects s.tracker.serial (k + 1) = false)
    (hc : ∀ c ∈ s.intake.calibrations, c.serial ≠ s.tracker.serial) :
    s.scanEvent.tracker = s.tracker ∧
      s.scanEvent.tally = { s.tally with runs := s.switchedRuns.map (Run.endAt s.tracker.serial) } := by
  have older : (s.tracker.ring.find? fun b => b.tag = s.tracker.serial) = none := by simpa using hfresh
  have found : s.scanned.findBoard s.scanRecord.tag = some s.scanRecord := by
    change (s.tracker.ring ++ [s.scanRecord]).find? (fun b => b.tag = s.tracker.serial) = some s.scanRecord
    simp [older, State.scanRecord, newBoard]
  have dropped : (s.tracker.ring ++ [s.scanRecord]).filter (fun b => b.tag ≠ s.tracker.serial) = s.tracker.ring := by
    simpa [State.scanRecord, newBoard] using hfresh
  have missing : missingHeads (s.openWindow s.tracker.serial) = [] :=
    headsWhere_eq_nil (by simpa [State.openWindow] using fun k hk => by simp [hnone k hk]) 1
  have closes : s.scanned.closeBoard s.scanRecord.tag =
      ((s.scanned.closedRecord s.scanRecord (s.openWindow s.tracker.serial)).draw, []) := by
    rw [State.closeBoard_of_scanning found rfl rfl hc, missing]
    rfl
  have taken : s.scanned.work (.closeIfComplete s.tracker.serial) = s.scanned.closeBoard s.scanRecord.tag :=
    if_pos ((State.serial_mem_completeTags_scanned hfresh).2 hnone)
  have drops : s.scanned.closedRecord s.scanRecord (s.openWindow s.tracker.serial) =
      (s.scanned.removeBoard s.tracker.serial).noteAssembly s.tracker.serial false := by
    rw [State.closedRecord, State.windowKept_openWindow]
    rfl
  rw [State.scanEvent_eq, State.works_of_done (taken.trans closes), drops]
  constructor
  · calc (s.scanned.removeBoard s.tracker.serial).tracker
      _ = { s.tracker with
            ring := (s.tracker.ring ++ [s.scanRecord]).filter fun b => b.tag ≠ s.tracker.serial } :=
          s.scanned.removeBoard_tracker s.tracker.serial
      _ = s.tracker := by rw [dropped]
  · exact s.scanned.removeBoard_same s.tracker.serial .tally (by decide)

theorem State.windowClose_of_not_scanning {s : State}
    (hc : ∀ c ∈ s.intake.calibrations, c.serial ≠ s.tagAtPosition s.config.aw)
    (h : ∀ b ∈ s.tracker.ring, b.tag = s.tagAtPosition s.config.aw → b.state ≠ .scanning) :
    s.windowClose = s.draw := by
  obtain ⟨n, hn⟩ : ∃ n, s.workFuel = n + 2 := ⟨64 * s.tracker.ring.length + 126, by unfold State.workFuel; omega⟩
  simp only [State.windowClose, State.works, hn, runWorks, State.work, State.closeBoard_of_not_scanning h,
    State.closeCalibration_of_none hc, List.nil_append, runWorks_nil]

/-- R23, R31: the record at position AW closes, and each of its missing heads takes a miss that is not its third. -/
theorem State.windowClose_of_scanning {s : State} {b : Board} {w : List HeadView}
    (hnodup : (s.tracker.ring.map fun x => x.tag).Nodup) (hb : b ∈ s.tracker.ring)
    (htag : b.tag = s.tagAtPosition s.config.aw) (hs : b.state = .scanning) (hw : b.window = some w)
    (hlen : w.length = Config.headCount) (hc : ∀ c ∈ s.intake.calibrations, c.serial ≠ b.tag)
    (hm : ∀ h ∈ missingHeads w, (s.head h).misses < 2) :
    ∃ hs : List Nat, hs.Perm (missingHeads w) ∧
      s.windowClose = (hs.foldl State.addMiss (s.closeBoard b.tag).1).draw := by
  have found := State.findBoard_of_mem hnodup hb
  have closes := State.closeBoard_of_scanning found hs hw hc
  rw [permuteBy_map] at closes
  generalize hms : permuteBy (Config.headOrder (s.closedRecord b w).draws) (missingHeads w) = ms at closes
  have perm : ms.Perm (missingHeads w) := hms ▸ permuteBy_perm _ _
  have count : ms.length ≤ Config.headCount := by
    rw [perm.length_eq, ← hlen]
    exact headsWhere_length_le _ _ _
  obtain ⟨n, hn⟩ : ∃ n, s.workFuel = (n + 1 + ms.length) + 1 := by
    refine ⟨s.workFuel - (ms.length + 2), ?_⟩
    have : Config.headCount = 12 := rfl
    unfold State.workFuel
    omega
  have early : ∀ h ∈ ms, ((s.closeBoard b.tag).1.head h).misses < 2 := by
    intro h hh
    have same : (s.closeBoard b.tag).1.head h = s.head h := by
      unfold State.head
      rw [State.closeBoard_heads found hs hw hc]
    rw [same]
    exact hm h (perm.mem_iff.1 hh)
  have settled : ∀ c ∈ (ms.foldl State.addMiss (s.closeBoard b.tag).1).intake.calibrations, c.serial ≠ b.tag := by
    rw [State.foldl_addMiss_calibrations]
    exact State.closeBoard_calibrations found hs hw hc
  have waiting : (s.closeBoard b.tag).2 = ms.map Work.miss := by rw [closes]
  have after : s.windowClose = (ms.foldl State.addMiss (s.closeBoard b.tag).1).draw :=
    calc s.windowClose
      _ = runWorks (n + 1 + ms.length) ((s.closeBoard b.tag).2 ++ [.closeCalibration b.tag]) (s.closeBoard b.tag).1 := by
          rw [State.windowClose, ← htag, State.works, hn]
          rfl
      _ = runWorks (n + 1) [.closeCalibration b.tag] (ms.foldl State.addMiss (s.closeBoard b.tag).1) := by
          rw [waiting, runWorks_misses (perm.nodup_iff.2 (headsWhere_nodup _ _ _)) early]
      _ = _ := by simp only [runWorks, State.work, State.closeCalibration_of_none settled, List.nil_append, runWorks_nil]
  exact ⟨ms, perm, after⟩

/-- Beside the head table and the draw counter the window close leaves what the close of the record leaves. -/
theorem State.windowClose_touches {s : State} {b : Board} {w : List HeadView}
    (hnodup : (s.tracker.ring.map fun x => x.tag).Nodup) (hb : b ∈ s.tracker.ring)
    (htag : b.tag = s.tagAtPosition s.config.aw) (hs : b.state = .scanning) (hw : b.window = some w)
    (hlen : w.length = Config.headCount) (hc : ∀ c ∈ s.intake.calibrations, c.serial ≠ b.tag)
    (hm : ∀ h ∈ missingHeads w, (s.head h).misses < 2) :
    (s.closeBoard b.tag).1.sameExcept [.intake, .draws] s.windowClose ∧
      ∀ k : Nat, s.windowClose.intake.heads[k]? =
        (s.intake.heads[k]?).map fun e => if k + 1 ∈ missingHeads w then { e with misses := e.misses + 1 } else e := by
  obtain ⟨ms, perm, closed⟩ := State.windowClose_of_scanning hnodup hb htag hs hw hlen hc hm
  rw [closed]
  constructor
  · exact ((State.foldl_addMiss_same _ ms).mono (by decide)).trans ((State.draw_same _).mono (by decide))
  · intro k
    have missed := State.foldl_addMiss_heads (perm.nodup_iff.2 (headsWhere_nodup _ _ _)) (s.closeBoard b.tag).1 k
    rw [State.closeBoard_heads (State.findBoard_of_mem hnodup hb) hs hw hc] at missed
    simp only [perm.mem_iff] at missed
    exact missed

/-! ### The parts in any order -/

theorem State.lugMark_mem_of_scan (before : State) {order : List LugPart} (h : .scan ∈ order) (s : State) :
    .link (sentFrame .lugMark s.tracker.serial []) ∈ (order.foldl (State.lugPart before) s).outputs := by
  induction order generalizing s with
  | nil => cases h
  | cons p order ih =>
    rcases List.mem_cons.1 h with rfl | h
    · have rest := State.LugKept.foldl (State.lugPart_lugKept before) order s.scanEvent
      exact rest.outputs.subset (by simp [State.scanEvent_outputs])
    · rw [← (before.lugPart_lugKept s p).serial]
      exact ih h _

/-- The pins set and the order drawn, a lug event is its parts in that order. -/
theorem execLugEvent_next (s : State) (e : Bool) (fb : SawSet) (m : Bool)
    (hs : s.line.state = .running ∨ s.line.state = .stopped) (hr : s.line.resetting = false) :
    exec (.lugEvent e fb m) s =
      .next ((s.setPins { eyeLoaded := e, feedback := fb, markerReady := m }).draw.lugEventWith e
        (permuteBy (Config.lugOrder s.draws) lugParts)) := by
  have takes : (s.setPins { eyeLoaded := e, feedback := fb, markerReady := m }).takesLugs = true := by
    rcases hs with hs | hs <;> simp [State.takesLugs, hs, hr]
  exact if_pos takes

theorem State.advance_eq (s : State) (e : Bool) :
    s.advance e =
      { s with
        tracker :=
          { s.tracker with
            serial := s.tracker.serial + 1#16
            homeCount := min 65535 (s.tracker.homeCount + 1)
            eye := some { loaded := e, serial := s.tracker.serial + 2#16 } } } := by
  unfold State.advance
  rw [BitVec.add_assoc]
  rfl

theorem State.lugEventWith_lugKept (s : State) (e : Bool) (order : List LugPart) :
    (s.advance e).LugKept (s.lugEventWith e order) :=
  .foldl (s.lugPart_lugKept) order _

theorem State.lugEventWith_touches (s : State) (p : Pins) (e : Bool) (order : List LugPart) :
    s.sameExcept (.pins :: lugBlocks) ((s.setPins p).draw.lugEventWith e order) := by
  have first : s.sameExcept [.pins, .draws] (s.setPins p).draw := by
    intro b hb
    cases b <;> simp at hb <;> rfl
  exact first.after (State.lugEventWith_same _ e order) (by decide) (by decide)

theorem State.expects_eq (s : State) (t : Tag) (h : Nat) :
    s.expects t h =
      (decide (h ≤ s.line.config.hn) && decide ((s.head h).state ≠ .retired) && decide ((s.head h).state ≠ .absent) &&
        decide ((s.head h).membership ≠ some t)) := by
  unfold State.expects State.config
  rw [Bool.eq_iff_iff]
  simp

/-- Settles O5: what a lug event keeps holds of each part and so of any order of them; the scan event and the window close
are worked through to their end. -/
theorem lugEventAdvancesTheLine : Obligations.LugEventAdvancesTheLine := by
  refine ⟨fun s e fb m hs hr => ?_, fun u e order => ?_, fun before u hfresh => ?_, fun before u => ?_⟩
  · have next := execLugEvent_next s e fb m hs hr
    have perm := permuteBy_perm (Config.lugOrder s.draws) lugParts
    refine ⟨⟨_, perm, next⟩, _, next, ?_⟩
    generalize permuteBy (Config.lugOrder s.draws) lugParts = order at perm
    have scans : LugPart.scan ∈ order := perm.mem_iff.2 (by decide)
    let u : State := (s.setPins { eyeLoaded := e, feedback := fb, markerReady := m }).draw
    have kept := u.lugEventWith_lugKept e order
    have mark := u.lugMark_mem_of_scan scans (u.advance e)
    have pins : (u.lugEventWith e order).pins = u.pins := u.lugEventWith_same e order .pins (by decide)
    rw [State.advance_eq] at kept
    exact ⟨kept.serial, kept.homeCount, kept.synced, kept.eye, pins, mark, kept.tags,
      (s.lugEventWith_touches _ e order).mono (by decide), kept.config, kept.noticeMask, kept.lugSkip, kept.timer,
      kept.binFull, kept.outputs⟩
  · rw [← State.advance_eq]
    rfl
  · intro t switched opened ended expected record v
    have expects : u.expects u.tracker.serial = expected := funext (u.expects_eq t)
    have created : u.scanRecord = record := by
      unfold State.scanRecord State.openWindow
      rw [expects]
      rfl
    refine ⟨u.scanEvent_outputs, ?_, fun hnone hc => ?_⟩
    · rintro ⟨h, hpos, hle, he⟩
      obtain ⟨k, rfl⟩ : ∃ k, h = k + 1 := ⟨h - 1, by omega⟩
      rw [← created]
      exact State.scanEvent_of_expected hfresh hle (by rw [expects]; exact he)
    · exact State.scanEvent_of_none_expected hfresh (fun k hk => by rw [expects]; exact hnone _ (by omega) hk) hc
  · intro t v hc
    refine ⟨State.windowClose_of_not_scanning hc, ?_⟩
    intro b w hnodup hb htag hs hw hlen missing hm
    have mem_missing : ∀ h, missing h = true ↔ h ∈ missingHeads w := fun h =>
      decide_eq_true_iff.trans mem_missingHeads.symm
    obtain ⟨same, heads⟩ := State.windowClose_touches hnodup hb htag hs hw hlen (htag ▸ hc)
      fun h hh => hm h ((mem_missing h).2 hh)
    rw [← htag]
    refine ⟨same .tracker (by decide), same .tally (by decide), same .grading (by decide), same .line (by decide),
      same .linePort (by decide), same .consolePort (by decide), fun k e he => ?_⟩
    have missed := heads k
    rw [he, Option.map_some] at missed
    simp only [mem_missing]
    exact missed

end Sys2Proof.Machine
end

section
/-! SUPPORT. The head table: which heads a test picks out, a head of the table changed, and the counters' part of a lug
event (R27). -/

namespace Sys2Proof.Machine

/-! ### The heads of a table for which a test holds -/

/-- The numbers of the heads of a table for which p holds, in order. -/
def headsSuchThat (p : Head → Bool) (l : List Head) : List Nat :=
  ((List.range l.length).map (· + 1)).filter fun h => (l[h - 1]?).any p

theorem succ_mem_headsSuchThat {p : Head → Bool} {l : List Head} {k : Nat} :
    k + 1 ∈ headsSuchThat p l ↔ ∃ e, l[k]? = some e ∧ p e = true := by
  cases hk : l[k]? with
  | none => simp [headsSuchThat, hk]
  | some e =>
    have hlt : k < l.length := (List.getElem?_eq_some_iff.1 hk).1
    simp [headsSuchThat, hlt, (List.getElem?_eq_some_iff.1 hk).2]

theorem headsSuchThat_nodup (p : Head → Bool) (l : List Head) : (headsSuchThat p l).Nodup :=
  (List.nodup_range.map fun _ _ => Nat.succ.inj).filter _

theorem pos_of_mem_headsSuchThat {p : Head → Bool} {l : List Head} {h : Nat} (hm : h ∈ headsSuchThat p l) :
    ∃ k, h = k + 1 := by
  obtain ⟨k, -, rfl⟩ := List.mem_map.1 (List.mem_of_mem_filter hm)
  exact ⟨k, rfl⟩

theorem headsSuchThat_eq_nil {p : Head → Bool} {l : List Head} (h : ∀ e ∈ l, p e = false) : headsSuchThat p l = [] := by
  refine List.eq_nil_iff_forall_not_mem.2 fun g hg => ?_
  obtain ⟨k, rfl⟩ := pos_of_mem_headsSuchThat hg
  obtain ⟨e, he, hp⟩ := succ_mem_headsSuchThat.1 hg
  simp [h e (List.mem_of_getElem? he)] at hp

theorem headsSuchThat_eq_singleton {p : Head → Bool} {l : List Head} {k : Nat} {e : Head} (hk : l[k]? = some e)
    (hp : p e = true) (h : ∀ j x, l[j]? = some x → p x = true → j = k) : headsSuchThat p l = [k + 1] := by
  refine List.perm_singleton.1 ((List.perm_ext_iff_of_nodup (headsSuchThat_nodup p l) (List.nodup_singleton _)).2 fun g => ?_)
  rw [List.mem_singleton]
  constructor
  · intro hg
    obtain ⟨j, rfl⟩ := pos_of_mem_headsSuchThat hg
    obtain ⟨x, hx, hpx⟩ := succ_mem_headsSuchThat.1 hg
    rw [h j x hx hpx]
  · rintro rfl
    exact succ_mem_headsSuchThat.2 ⟨e, hk, hp⟩

theorem headsSuchThat_cons (p : Head → Bool) (e : Head) (l : List Head) :
    headsSuchThat p (e :: l) = if p e then 1 :: (headsSuchThat p l).map (· + 1) else (headsSuchThat p l).map (· + 1) := by
  simp only [headsSuchThat, List.length_cons, List.range_succ_eq_map, List.map_cons, List.map_map, List.filter_cons,
    List.filter_map]
  split <;> simp_all [Function.comp_def]

/-- R27: the heads that have run out. -/
def Head.ranOut (e : Head) : Bool := decide (e.state = .pendingCal ∧ e.counter = 0)

/-- A list that goes through a table and keeps the numbers of the heads that pass a test. -/
theorem eq_headsSuchThat {p : Head → Bool} {f : Nat → List Head → List Nat} (hnil : ∀ n, f n [] = [])
    (hcons : ∀ n e es, f n (e :: es) = if p e then n :: f (n + 1) es else f (n + 1) es) (l : List Head) :
    f 1 l = headsSuchThat p l := by
  have shifted : ∀ (m : Nat) (l : List Head), f (m + 1) l = (headsSuchThat p l).map (· + m) := by
    intro m l
    induction l generalizing m with
    | nil => exact hnil _
    | cons e es ih =>
      rw [headsSuchThat_cons, hcons, ih (m + 1)]
      split <;> simp [Function.comp_def, Nat.add_comm, Nat.add_left_comm]
  simpa using shifted 0 l

theorem runOut_eq (l : List Head) : runOut 1 l = headsSuchThat Head.ranOut l :=
  eq_headsSuchThat (fun _ => rfl) (fun n e es => by simp only [runOut, Head.ranOut, decide_eq_true_eq]) l

/-! ### A head of the table changed -/

theorem State.head_of_getElem? {s : State} {k : Nat} {e : Head} (hk : s.intake.heads[k]? = some e) :
    s.head (k + 1) = e := by
  rw [State.head_succ, hk, Option.getD_some]

theorem State.mapHead_heads (s : State) (h k : Nat) (f : Head → Head) :
    (s.mapHead h f).intake.heads[k]? = (s.intake.heads[k]?).map fun e => if k + 1 = h then f e else e := by
  cases h with
  | zero => simp [State.mapHead]
  | succ j =>
    simp only [State.mapHead, Nat.add_one_ne_zero, if_false, Nat.add_sub_cancel, List.getElem?_modify, eq_comm (a := j),
      Nat.add_right_cancel_iff]
    split <;> simp

theorem modify_eq_set_of_getElem? {α : Type} {l : List α} {k : Nat} {e : α} (hk : l[k]? = some e) (f : α → α) :
    l.modify k f = l.set k (f e) := by
  rw [List.modify_eq_set_getElem?, hk]
  rfl

theorem State.mapHead_of_getElem? {s : State} {h : Nat} {e : Head} (hpos : 1 ≤ h)
    (hk : s.intake.heads[h - 1]? = some e) (f : Head → Head) :
    s.mapHead h f = { s with intake := { s.intake with heads := s.intake.heads.set (h - 1) (f e) } } := by
  rw [State.mapHead, if_neg (by omega), modify_eq_set_of_getElem? hk]

/-! ### The transitions of R27 -/

/-- R27: a head that has run out, STALE. -/
def Head.expire (e : Head) : Head := if e.state = .pendingCal ∧ e.counter = 0 then { e with state := .stale } else e

theorem Head.expire_of_not {e : Head} (h : e.state ≠ .pendingCal ∨ e.counter ≠ 0) : e.expire = e := if_neg (not_and_or.2 h)

theorem State.refreshAttention_intake (s : State) : s.refreshAttention.intake = s.intake :=
  s.refreshAttention_same .intake (by decide)

theorem State.notice_intake (s : State) (n : Notice) : (s.notice n).intake = s.intake := s.notice_same n .intake (by decide)

theorem State.goStale_of_ranOut {s : State} {h : Nat} (hs : (s.head h).state = .pendingCal) (hc : (s.head h).counter = 0) :
    s.goStale h = ((s.mapHead h fun e => { e with state := .stale }).notice (.headStale h)).refreshAttention :=
  if_pos ⟨hs, hc⟩

theorem State.goStale_of_not {s : State} {h : Nat} (hs : (s.head h).state ≠ .pendingCal ∨ (s.head h).counter ≠ 0) :
    s.goStale h = s :=
  if_neg (not_and_or.2 hs)

theorem State.goStale_heads (s : State) (h k : Nat) :
    (s.goStale h).intake.heads[k]? = (s.intake.heads[k]?).map fun e => if k + 1 = h then e.expire else e := by
  by_cases hout : (s.head h).state = .pendingCal ∧ (s.head h).counter = 0
  · rw [State.goStale_of_ranOut hout.1 hout.2, State.refreshAttention_intake, State.notice_intake, State.mapHead_heads]
    refine Option.map_congr fun e he => ?_
    split
    · rename_i hk
      rw [← hk, State.head_of_getElem? he] at hout
      exact (if_pos hout).symm
    · rfl
  · rw [State.goStale_of_not (not_and_or.1 hout)]
    refine Option.map_id'.symm.trans (Option.map_congr fun e he => ?_)
    split
    · rename_i hk
      rw [← hk, State.head_of_getElem? he] at hout
      exact (if_neg hout).symm
    · rfl

theorem Head.expire_expire (e : Head) : e.expire.expire = e.expire := by
  unfold Head.expire
  split <;> simp_all

/-- An operation on one head done for each head of a list, where doing it twice is doing it once. -/
theorem foldl_heads_of_idempotent {op : State → Nat → State} {f : Head → Head} (hf : ∀ e, f (f e) = f e)
    (hop : ∀ s h k, (op s h).intake.heads[k]? = (s.intake.heads[k]?).map fun e => if k + 1 = h then f e else e)
    (hs : List Nat) (s : State) (k : Nat) :
    (hs.foldl op s).intake.heads[k]? = (s.intake.heads[k]?).map fun e => if k + 1 ∈ hs then f e else e := by
  induction hs generalizing s with
  | nil => simp
  | cons h hs ih =>
    rw [List.foldl_cons, ih, hop, Option.map_map]
    refine Option.map_congr fun e _ => ?_
    by_cases hk : k + 1 = h <;> by_cases hm : k + 1 ∈ hs <;> simp [hk, hm, hf]

/-! ### The counters' part of a lug event -/

theorem tickHeads_getElem? (ol : Nat) (before now : List Head) (k : Nat) :
    (tickHeads ol before now)[k]? =
      (now[k]?).map fun e => match before[k]? with | some b => tickHead ol b.state e | none => e := by
  induction now generalizing before k with
  | nil => cases before <;> rfl
  | cons e es ih =>
    cases before with
    | nil => simp [tickHeads]
    | cons b bs =>
      cases k with
      | zero => rfl
      | succ k => exact ih bs k

/-- The counters' part of a lug event before its STALE transitions. -/
def State.ticked (s : State) (before : List Head) : State :=
  ({ s with intake := { s.intake with heads := tickHeads s.config.ol before s.intake.heads } } : State).draw

theorem State.tickCounters_eq (before : List Head) (s : State) :
    s.tickCounters before =
      (permuteBy (Config.headOrder s.draws) (headsSuchThat Head.ranOut (s.ticked before).intake.heads)).foldl
        State.goStale (s.ticked before) := by
  rw [← runOut_eq]
  rfl

/-- The head table after the counters' part: ticked, and STALE where that ran a head out. -/
theorem State.tickCounters_heads (before : List Head) (s : State) :
    (s.tickCounters before).intake.heads = (s.ticked before).intake.heads.map Head.expire := by
  refine List.ext_getElem? fun k => ?_
  rw [State.tickCounters_eq, foldl_heads_of_idempotent Head.expire_expire State.goStale_heads, List.getElem?_map]
  refine Option.map_congr fun e he => ?_
  simp only [(permuteBy_perm _ _).mem_iff, succ_mem_headsSuchThat, he, Option.some.injEq, exists_eq_left', Head.ranOut,
    decide_eq_true_eq, Head.expire]
  split <;> rfl

theorem State.ticked_heads (s : State) (before : List Head) {k : Nat} {e b : Head} (he : s.intake.heads[k]? = some e)
    (hb : before[k]? = some b) : (s.ticked before).intake.heads[k]? = some (tickHead s.line.config.ol b.state e) := by
  change (tickHeads s.line.config.ol before s.intake.heads)[k]? = _
  rw [tickHeads_getElem?, he, hb, Option.map_some]

theorem tickHead_active {ol : Nat} {e : Head} (he : e.state = .active) :
    tickHead ol .active e =
      if e.counter ≤ 1 then { e with state := .pendingCal, counter := ol } else { e with counter := e.counter - 1 } := by
  simp only [tickHead, he]

theorem tickHead_pendingCal {ol : Nat} {e : Head} (he : e.state = .pendingCal) :
    tickHead ol .pendingCal e = { e with counter := e.counter - 1 } := by
  simp only [tickHead, he]

theorem tickHead_of_other {ol : Nat} {b : HeadState} {e : Head} (ha : b = .active → e.state ≠ .active)
    (hp : b = .pendingCal → e.state ≠ .pendingCal) : tickHead ol b e = e := by
  unfold tickHead
  split
  · rename_i he
    exact absurd he (ha rfl)
  · rename_i he
    exact absurd he (hp rfl)
  · rfl

/-- R27: with OL at least 1 only a head at its last PENDING_CAL lug runs out. -/
theorem last_lug_of_ranOut_tickHead {ol : Nat} (hol : 1 ≤ ol) {b : HeadState} {e : Head}
    (hout : (tickHead ol b e).ranOut = true) : e.state = .pendingCal ∧ e.counter ≤ 1 := by
  simp only [Head.ranOut, decide_eq_true_eq] at hout
  by_cases ha : b = .active ∧ e.state = .active
  · obtain ⟨rfl, ha⟩ := ha
    rw [tickHead_active ha] at hout
    split at hout
    · exact absurd hout.2 (Nat.ne_of_gt hol)
    · exact absurd (ha.symm.trans hout.1) (by decide)
  · by_cases hp : b = .pendingCal ∧ e.state = .pendingCal
    · obtain ⟨rfl, hp⟩ := hp
      rw [tickHead_pendingCal hp] at hout
      exact ⟨hp, Nat.sub_eq_zero_iff_le.1 hout.2⟩
    · rw [tickHead_of_other (fun h => not_and.1 ha h) (fun h => not_and.1 hp h)] at hout
      exact ⟨hout.1, by omega⟩

theorem State.last_lug_of_ranOut {s : State} {before : List Head} (hol : 1 ≤ s.line.config.ol) {k : Nat} {x : Head}
    (hx : (s.ticked before).intake.heads[k]? = some x) (hout : x.ranOut = true) :
    ∃ e, s.intake.heads[k]? = some e ∧ e.state = .pendingCal ∧ e.counter ≤ 1 := by
  change (tickHeads s.line.config.ol before s.intake.heads)[k]? = some x at hx
  rw [tickHeads_getElem?] at hx
  obtain ⟨e, he, rfl⟩ := Option.map_eq_some_iff.1 hx
  refine ⟨e, he, ?_⟩
  cases hb : before[k]? with
  | none =>
    simp only [hb, Head.ranOut, decide_eq_true_eq] at hout
    exact ⟨hout.1, by omega⟩
  | some b =>
    rw [hb] at hout
    exact last_lug_of_ranOut_tickHead hol hout

/-- R27: where every PENDING_CAL head has a further lug, the counters' part makes none STALE. -/
theorem State.tickCounters_of_none_last {s : State} {before : List Head} (hol : 1 ≤ s.line.config.ol)
    (h : ∀ e ∈ s.intake.heads, e.state = .pendingCal → 2 ≤ e.counter) : s.tickCounters before = s.ticked before := by
  have calm : ∀ x ∈ (s.ticked before).intake.heads, x.ranOut = false := by
    intro x hx
    obtain ⟨k, hk⟩ := List.mem_iff_getElem?.1 hx
    refine Bool.eq_false_iff.2 fun hout => ?_
    obtain ⟨e, he, hs, hc⟩ := State.last_lug_of_ranOut hol hk hout
    have := h e (List.mem_of_getElem? he) hs
    omega
  rw [State.tickCounters_eq, headsSuchThat_eq_nil calm]
  rfl

/-- R27: with one head at its last PENDING_CAL lug, that head becomes STALE, with its notice and the attention reason. -/
theorem State.tickCounters_of_one_last {s : State} {before : List Head} (hol : 1 ≤ s.line.config.ol) {k : Nat} {e b : Head}
    (he : s.intake.heads[k]? = some e) (hb : before[k]? = some b) (hs : e.state = .pendingCal) (hbs : b.state = .pendingCal)
    (hc : e.counter ≤ 1)
    (h : ∀ j x, s.intake.heads[j]? = some x → x.state = .pendingCal → j = k ∨ 2 ≤ x.counter) :
    s.tickCounters before =
      (((s.ticked before).mapHead (k + 1) fun e => { e with state := .stale }).notice (.headStale (k + 1))).refreshAttention := by
  have ticked : (s.ticked before).intake.heads[k]? = some { e with counter := e.counter - 1 } := by
    rw [s.ticked_heads before he hb, hbs, tickHead_pendingCal hs]
  have ranOut : ({ e with counter := e.counter - 1 } : Head).ranOut = true := by simp [Head.ranOut, hs, hc]
  have alone : ∀ j x, (s.ticked before).intake.heads[j]? = some x → x.ranOut = true → j = k := by
    intro j x hx hout
    obtain ⟨f, hf, hfs, hfc⟩ := State.last_lug_of_ranOut hol hx hout
    rcases h j f hf hfs with hj | hlate
    · exact hj
    · omega
  obtain ⟨stands, out⟩ := of_decide_eq_true ranOut
  rw [State.tickCounters_eq, headsSuchThat_eq_singleton ticked ranOut alone]
  rw [← State.head_of_getElem? ticked] at stands out
  exact State.goStale_of_ranOut stands out

/-! ### One head through the counters' part -/

theorem State.tickCounters_head (s : State) {before : List Head} {k : Nat} {e b : Head} (he : s.intake.heads[k]? = some e)
    (hb : before[k]? = some b) :
    (s.tickCounters before).intake.heads[k]? = some (tickHead s.line.config.ol b.state e).expire := by
  rw [State.tickCounters_heads, List.getElem?_map, s.ticked_heads before he hb, Option.map_some]

theorem expire_tickHead_active {ol : Nat} (hol : 1 ≤ ol) {e : Head} (he : e.state = .active) :
    (tickHead ol .active e).expire =
      if e.counter ≤ 1 then { e with state := .pendingCal, counter := ol } else { e with counter := e.counter - 1 } := by
  rw [tickHead_active he, Head.expire_of_not]
  split
  · exact .inr (Nat.ne_of_gt hol)
  · exact .inl (by simp [he])

theorem expire_tickHead_pendingCal {ol : Nat} {e : Head} (he : e.state = .pendingCal) :
    (tickHead ol .pendingCal e).expire =
      if e.counter ≤ 1 then { e with state := .stale, counter := 0 } else { e with counter := e.counter - 1 } := by
  rw [tickHead_pendingCal he]
  simp only [Head.expire, he, true_and, Nat.sub_eq_zero_iff_le]
  split
  · rename_i hc
    rw [Nat.sub_eq_zero_of_le hc]
  · rfl

/-! ### The idle step, HEAD_CAL_DUE and HEAD_STALE -/

theorem step_of_idle {s : State} (hp : s.pending = []) : step s = .next s.tickTimer := by
  unfold step
  rw [hp]

theorem State.tickTimer_of_none {s : State} (h : s.trimmer.timer = none) : s.tickTimer = s := by
  unfold State.tickTimer
  rw [h]

theorem State.tickTimer_of_some {s : State} {n : Nat} (h : s.trimmer.timer = some n) :
    s.tickTimer = if n ≤ 1 then s.silenceExpiry else s.setTimer (some (n - 1)) := by
  unfold State.tickTimer
  rw [h]

theorem State.calDue_of_due {s : State} {h : Nat} (hs : (s.head h).state = .active) (hc : (s.head h).counter = 0) :
    s.calDue h = s.mapHead h fun e => { e with state := .pendingCal, counter := s.line.config.ol } :=
  if_pos ⟨hs, hc⟩

theorem State.calDue_of_not {s : State} {h : Nat} (hs : (s.head h).state ≠ .active ∨ (s.head h).counter ≠ 0) :
    s.calDue h = s :=
  if_neg (not_and_or.2 hs)

/-- Settles O2: a head's place after the counters' part is its place ticked and then expired, and with OL at least 1 only a
head at its last PENDING_CAL lug expires. -/
theorem timeDrivenStepsAtZero : Obligations.TimeDrivenStepsAtZero := by
  refine ⟨fun s hp => ?_, fun s h e hpos he => ?_, fun before u hol => ?_⟩
  · rw [step_of_idle hp]
    refine ⟨fun ht => ?_, fun n ht hn => ?_, fun n ht hn => ?_⟩
    · rw [State.tickTimer_of_none ht]
    · rw [State.tickTimer_of_some ht, if_neg (by omega)]
      rfl
    · rw [State.tickTimer_of_some ht, if_pos hn]
      rfl
  · obtain ⟨k, rfl⟩ : ∃ k, h = k + 1 := ⟨h - 1, by omega⟩
    have head : s.head (k + 1) = e := State.head_of_getElem? he
    have due : exec (.headCalDue (k + 1)) s = .next (s.calDue (k + 1)) := rfl
    have stale : exec (.headStale (k + 1)) s = .next (s.goStale (k + 1)) := rfl
    rw [due, stale]
    refine ⟨fun hs hc => ?_, fun hn => ?_, fun hs hc => ?_, fun hn => ?_⟩
    · rw [State.calDue_of_due (head ▸ hs) (head ▸ hc), State.mapHead_of_getElem? hpos he]
    · rw [State.calDue_of_not (head ▸ hn)]
    · rw [State.goStale_of_ranOut (head ▸ hs) (head ▸ hc), State.mapHead_of_getElem? hpos he]
    · rw [State.goStale_of_not (head ▸ hn)]
  · intro v quiet
    let ticked := u.ticked before.intake.heads
    refine ⟨?_, fun k e b he hb => ?_, fun hlate => ?_, fun k e b he hb hs hbs hc hlate => ?_⟩
    · change (u.tickCounters before.intake.heads).intake.heads.length = _
      rw [State.tickCounters_heads, List.length_map]
      exact tickHeads_length _ _ _
    · have now : v.intake.heads[k]? = _ := u.tickCounters_head he hb
      rw [now]
      refine ⟨fun hs hbs => ?_, fun hs hbs => ?_, fun hs hn => ?_⟩
      · rw [hbs, expire_tickHead_active hol hs]
      · rw [hbs, expire_tickHead_pendingCal hs]
      · rw [tickHead_of_other (fun hb => hn.resolve_right (not_not.2 hb)) fun _ => hs, Head.expire_of_not (.inl hs)]
    · have ends : v = ticked := State.tickCounters_of_none_last hol hlate
      change v = { u with intake := { heads := v.intake.heads, calibrations := u.intake.calibrations }, draws := u.draws + 1 }
      rw [ends]
      rfl
    · have ends : v = _ := State.tickCounters_of_one_last hol he hb hs hbs hc hlate
      have intake : v.intake = (ticked.mapHead (k + 1) fun e => { e with state := .stale }).intake := by
        rw [ends, State.refreshAttention_intake, State.notice_intake]
      have same : quiet = ticked.mapHead (k + 1) fun e => { e with state := .stale } := by
        change { u with intake := { heads := v.intake.heads, calibrations := u.intake.calibrations }, draws := u.draws + 1 } = _
        rw [intake]
        rfl
      rw [same]
      exact ends

end Sys2Proof.Machine
end

section
/-! SUPPORT. What a close owes its heads: the misses of the missing ones (R31) and the outcomes of a calibration (R30), and
how the works that discharge them end where no miss is a head's third. -/

namespace Sys2Proof.Machine

/-! ### States that differ in the scan intake alone -/

theorem State.sameExcept.eq_withIntake {s t : State} (h : s.sameExcept [.intake] t) :
    t = { s with intake := t.intake } := by
  obtain ⟨⟩ := t
  simp only [State.mk.injEq, true_and]
  exact ⟨h .tracker (by decide), h .logs (by decide), h .rules (by decide), h .grading (by decide),
    h .patterns (by decide), h .trimmer (by decide), h .outfeed (by decide), h .tally (by decide), h .line (by decide),
    h .linePort (by decide), h .consolePort (by decide), h .selection (by decide), h .pins (by decide),
    h .outputs (by decide), h .draws (by decide), h .pending (by decide)⟩

/-- R123: an ATTENTION report goes to the console port. -/
theorem State.refreshAttention_same_console (s : State) : s.sameExcept [.trimmer, .consolePort] s.refreshAttention := by
  have report : ∀ (u : State) (k : Byte) (body : List Byte), u.sameExcept [.consolePort] (u.offer .console k body) := by
    intro u k body b hb
    unfold State.offer
    split
    · cases b <;> rfl
    · cases b <;> first | rfl | simp at hb
  have stored : ∀ a, s.sameExcept [.trimmer] { s with trimmer := { s.trimmer with attention := a } } := by
    intro a b hb
    cases b <;> first | rfl | simp at hb
  unfold State.refreshAttention State.setAttention
  split
  · exact .refl _ s
  · exact (stored _).after (report _ _ _) (by decide) (by decide)

/-! ### Dues and their discharge -/

/-- What a close owes a head. -/
inductive Due where
  | missed
  | settled (o : CalOutcome)

/-- The work that discharges what is owed to a head. -/
def Due.work : Nat × Due → Work
  | (h, .missed) => .miss h
  | (h, .settled o) => .settle h o

/-- A head once it has what it is owed, where that is no third miss (R30, R31). -/
def Due.on (ci : Nat) : Due → Head → Head
  | .missed, e => { e with misses := e.misses + 1 }
  | .settled .good, e => { e with state := .active, counter := ci, misses := 0, membership := none }
  | .settled .disturbed, e => { e with membership := none }
  | .settled .failed, e => { e with misses := e.misses + 1, membership := none }

/-- Whether what a head is owed takes it out of its calibration. -/
def Due.leaves : Due → Bool
  | .missed => false
  | .settled _ => true

/-- A state once a head has what it is owed. -/
def State.discharge (s : State) (x : Nat × Due) : State :=
  match x.2 with
  | .missed => s.addMiss x.1
  | .settled .failed => (s.leaveCalibration x.1).addMiss x.1
  | .settled o => (s.settleHead x.1 o).1

theorem State.leaveCalibration_heads (s : State) (h k : Nat) :
    (s.leaveCalibration h).intake.heads[k]? =
      (s.intake.heads[k]?).map fun e => if k + 1 = h then { e with membership := none } else e :=
  State.mapHead_heads _ h k _

theorem State.mapHead_calibrations (s : State) (h : Nat) (f : Head → Head) :
    (s.mapHead h f).intake.calibrations = s.intake.calibrations := by
  cases h <;> rfl

theorem State.leaveCalibration_calibrations (s : State) (h : Nat) :
    (s.leaveCalibration h).intake.calibrations = s.intake.calibrations.map fun c => c.without h :=
  State.mapHead_calibrations _ h _

theorem State.settleGood_eq (s : State) (h : Nat) :
    (s.settleHead h .good).1 =
      ((s.leaveCalibration h).mapHead h fun e =>
        { e with state := .active, counter := s.line.config.ci, misses := 0 }).refreshAttention := by
  have line : (s.leaveCalibration h).line = s.line := s.leaveCalibration_same h .line (by decide)
  rw [← line]
  rfl

theorem State.discharge_same (s : State) (x : Nat × Due) :
    s.sameExcept [.intake, .trimmer, .consolePort] (s.discharge x) := by
  obtain ⟨h, d⟩ := x
  have left := s.leaveCalibration_same h
  cases d with
  | missed => exact (s.mapHead_same h _).mono (by decide)
  | settled o =>
    cases o with
    | good =>
      exact (left.trans (State.mapHead_same _ h _)).after (State.refreshAttention_same_console _) (by decide) (by decide)
    | disturbed => exact left.mono (by decide)
    | failed => exact (left.trans (State.mapHead_same _ h _)).mono (by decide)

/-- R30, R31: the head has what it is owed, and the others stay. -/
theorem State.discharge_heads (s : State) (x : Nat × Due) (k : Nat) :
    (s.discharge x).intake.heads[k]? =
      (s.intake.heads[k]?).map fun e => if k + 1 = x.1 then x.2.on s.line.config.ci e else e := by
  obtain ⟨h, d⟩ := x
  cases d with
  | missed => exact s.addMiss_heads h k
  | settled o =>
    cases o with
    | good =>
      change (s.settleHead h .good).1.intake.heads[k]? = _
      rw [State.settleGood_eq, State.refreshAttention_intake, State.mapHead_heads, State.leaveCalibration_heads, Option.map_map]
      refine Option.map_congr fun e _ => ?_
      by_cases hk : k + 1 = h <;> simp [hk, Due.on]
    | disturbed => exact s.leaveCalibration_heads h k
    | failed =>
      change ((s.leaveCalibration h).addMiss h).intake.heads[k]? = _
      rw [State.addMiss_heads, State.leaveCalibration_heads, Option.map_map]
      refine Option.map_congr fun e _ => ?_
      by_cases hk : k + 1 = h <;> simp [hk, Due.on]

theorem State.discharge_head_of_ne (s : State) {x : Nat × Due} {g : Nat} (hg : g ≠ x.1) :
    (s.discharge x).head g = s.head g := by
  cases g with
  | zero => rfl
  | succ k => simp [State.head_succ, State.discharge_heads, hg]

/-- A calibration's members but for the heads that leave it. -/
def Calibration.afterDues (xs : List (Nat × Due)) (c : Calibration) : Calibration :=
  { c with members := c.members.filter fun m => xs.all fun x => !(x.2.leaves && x.1 == m.head) }

theorem Calibration.afterDues_nil (c : Calibration) : c.afterDues [] = c := by
  simp [Calibration.afterDues]

theorem Calibration.afterDues_cons (x : Nat × Due) (xs : List (Nat × Due)) (c : Calibration) :
    c.afterDues (x :: xs) = (c.afterDues [x]).afterDues xs := by
  simp [Calibration.afterDues, List.filter_filter, Bool.and_comm]

theorem Calibration.afterDues_settled (h : Nat) (o : CalOutcome) (c : Calibration) :
    c.afterDues [(h, .settled o)] = c.without h := by
  simp [Calibration.afterDues, Calibration.without, Due.leaves, beq_eq_decide, eq_comm]

theorem State.discharge_calibrations (s : State) (x : Nat × Due) :
    (s.discharge x).intake.calibrations = s.intake.calibrations.map (Calibration.afterDues [x]) := by
  obtain ⟨h, d⟩ := x
  cases d with
  | missed =>
    have stays : Calibration.afterDues [(h, .missed)] = id :=
      funext fun c => by simp [Calibration.afterDues, Due.leaves]
    rw [stays, List.map_id]
    exact s.mapHead_calibrations h _
  | settled o =>
    rw [funext (Calibration.afterDues_settled h o), ← State.leaveCalibration_calibrations]
    cases o with
    | good =>
      change (s.settleHead h .good).1.intake.calibrations = _
      rw [State.settleGood_eq, State.refreshAttention_intake, State.mapHead_calibrations]
    | disturbed => rfl
    | failed => exact State.mapHead_calibrations _ h _

/-! ### Dues discharged one after the other -/

theorem State.foldl_discharge_same (s : State) (xs : List (Nat × Due)) :
    s.sameExcept [.intake, .trimmer, .consolePort] (xs.foldl State.discharge s) :=
  .foldl State.discharge_same xs s

theorem State.foldl_discharge_calibrations (s : State) (xs : List (Nat × Due)) :
    (xs.foldl State.discharge s).intake.calibrations = s.intake.calibrations.map (Calibration.afterDues xs) := by
  induction xs generalizing s with
  | nil => simp [funext Calibration.afterDues_nil]
  | cons x xs ih =>
    rw [List.foldl_cons, ih, State.discharge_calibrations, List.map_map]
    exact List.map_congr_left fun c _ => (Calibration.afterDues_cons x xs c).symm

theorem State.foldl_discharge_heads_of_not_mem {xs : List (Nat × Due)} {k : Nat} (hk : k + 1 ∉ xs.map Prod.fst)
    (s : State) : (xs.foldl State.discharge s).intake.heads[k]? = s.intake.heads[k]? := by
  induction xs generalizing s with
  | nil => rfl
  | cons x xs ih =>
    obtain ⟨hne, hout⟩ := not_or.1 (List.mem_cons.not.1 hk)
    rw [List.foldl_cons, ih hout, State.discharge_heads]
    simp [hne]

/-- Where each head is owed at most one thing, a head of the list has what it is owed. -/
theorem State.foldl_discharge_heads_of_mem {xs : List (Nat × Due)} (hnodup : (xs.map Prod.fst).Nodup) {k : Nat} {d : Due}
    (hx : (k + 1, d) ∈ xs) (s : State) :
    (xs.foldl State.discharge s).intake.heads[k]? = (s.intake.heads[k]?).map (d.on s.line.config.ci) := by
  induction xs generalizing s with
  | nil => cases hx
  | cons x xs ih =>
    obtain ⟨hout, hnodup⟩ := List.nodup_cons.1 hnodup
    rw [List.foldl_cons]
    rcases List.mem_cons.1 hx with rfl | hx
    · rw [State.foldl_discharge_heads_of_not_mem hout, State.discharge_heads]
      simp
    · have hne : k + 1 ≠ x.1 := fun h => hout (h ▸ List.mem_map.2 ⟨_, hx, rfl⟩)
      have line : (s.discharge x).line = s.line := s.discharge_same x .line (by decide)
      rw [ih hnodup hx, State.discharge_heads, line]
      simp [hne]

theorem State.foldl_discharge_heads_length (s : State) (xs : List (Nat × Due)) :
    (xs.foldl State.discharge s).intake.heads.length = s.intake.heads.length := by
  induction xs generalizing s with
  | nil => rfl
  | cons x xs ih =>
    have table : (s.discharge x).intake.heads =
        s.intake.heads.mapIdx fun k e => if k + 1 = x.1 then x.2.on s.line.config.ci e else e :=
      List.ext_getElem? fun k => by rw [State.discharge_heads, List.getElem?_mapIdx]
    rw [List.foldl_cons, ih, table, List.length_mapIdx]

theorem State.leaveCalibration_misses (s : State) (g h : Nat) :
    ((s.leaveCalibration h).head g).misses = (s.head g).misses := by
  cases g with
  | zero => rfl
  | succ k =>
    rw [State.head_succ, State.head_succ, State.leaveCalibration_heads]
    cases s.intake.heads[k]? with
    | none => rfl
    | some e => by_cases hk : k + 1 = h <;> simp [hk]

/-! ### The works that discharge them -/

/-- A FAILED outcome sets off a miss, so that one due takes at most two works. -/
theorem runWorks_due {s : State} {x : Nat × Due} (hm : (s.head x.1).misses < 2) (n : Nat) (ws : List Work) :
    ∃ m, n ≤ m ∧ runWorks (n + 2) (Due.work x :: ws) s = runWorks m ws (s.discharge x) := by
  obtain ⟨h, d⟩ := x
  cases d with
  | missed =>
    have first : s.work (.miss h) = (s.addMiss h, []) := State.missHead_of_lt hm
    refine ⟨n + 1, by omega, ?_⟩
    rw [Due.work, runWorks, first]
    rfl
  | settled o =>
    cases o with
    | good | disturbed => exact ⟨n + 1, by omega, rfl⟩
    | failed =>
      have miss : (s.leaveCalibration h).work (.miss h) = ((s.leaveCalibration h).addMiss h, []) :=
        State.missHead_of_lt ((s.leaveCalibration_misses h h).symm ▸ hm)
      refine ⟨n, le_rfl, ?_⟩
      change runWorks (n + 1) (.miss h :: ws) (s.leaveCalibration h) = _
      rw [runWorks, miss]
      rfl

theorem runWorks_dues {xs : List (Nat × Due)} (hnodup : (xs.map Prod.fst).Nodup) {s : State}
    (hm : ∀ x ∈ xs, (s.head x.1).misses < 2) {n fuel : Nat} (hfuel : n + 2 * xs.length ≤ fuel) (ws : List Work) :
    ∃ m, n ≤ m ∧ runWorks fuel (xs.map Due.work ++ ws) s = runWorks m ws (xs.foldl State.discharge s) := by
  induction xs generalizing s fuel with
  | nil => exact ⟨fuel, hfuel, rfl⟩
  | cons x xs ih =>
    obtain ⟨hout, hnodup⟩ := List.nodup_cons.1 hnodup
    rw [List.length_cons] at hfuel
    obtain ⟨j, rfl⟩ : ∃ j, fuel = j + 2 := ⟨fuel - 2, by omega⟩
    obtain ⟨i, hi, first⟩ := runWorks_due (hm x List.mem_cons_self) j (xs.map Due.work ++ ws)
    have others : ∀ y ∈ xs, ((s.discharge x).head y.1).misses < 2 := by
      intro y hy
      have hne : y.1 ≠ x.1 := fun h => hout (h ▸ List.mem_map.2 ⟨y, hy, rfl⟩)
      rw [State.discharge_head_of_ne s hne]
      exact hm y (List.mem_cons_of_mem _ hy)
    obtain ⟨m, hnm, rest⟩ := ih hnodup others (show n + 2 * xs.length ≤ i by omega)
    exact ⟨m, hnm, first.trans rest⟩

end Sys2Proof.Machine
end

section
/-! SUPPORT. CAL_RESULT (R30) and the part of a lug event that opens a calibration (R28). -/

namespace Sys2Proof.Machine

/-! ### The calibration of a serial -/

/-- A state holds a calibration, the only one of its serial. -/
structure State.Holds (s : State) (c : Calibration) : Prop where
  serials : (s.intake.calibrations.map fun x => x.serial).Nodup
  mem : c ∈ s.intake.calibrations

theorem State.Holds.eq_of_serial {s : State} {c x : Calibration} (hc : s.Holds c) (hx : x ∈ s.intake.calibrations)
    (hs : x.serial = c.serial) : x = c :=
  List.inj_on_of_nodup_map hc.serials hx hc.mem hs

theorem State.Holds.find {s : State} {c : Calibration} (hc : s.Holds c) :
    (s.intake.calibrations.find? fun x => x.serial = c.serial) = some c := by
  have found : (s.intake.calibrations.find? fun x => x.serial = c.serial).isSome :=
    List.find?_isSome.2 ⟨c, hc.mem, by simp⟩
  obtain ⟨x, hx⟩ := Option.isSome_iff_exists.1 found
  rw [hx, hc.eq_of_serial (List.mem_of_find?_eq_some hx) (by simpa using List.find?_some hx)]

theorem State.Holds.filter {s : State} {c : Calibration} (hc : s.Holds c) :
    (s.intake.calibrations.filter fun x => x.serial = c.serial) = [c] := by
  have nodup : s.intake.calibrations.Nodup := .of_map _ hc.serials
  refine List.perm_singleton.1 ((List.perm_ext_iff_of_nodup (nodup.filter _) (List.nodup_singleton c)).2 fun x => ?_)
  rw [List.mem_filter, List.mem_singleton, decide_eq_true_eq]
  constructor
  · rintro ⟨hx, hs⟩
    exact hc.eq_of_serial hx hs
  · rintro rfl
    exact ⟨hc.mem, rfl⟩

/-! ### CAL_RESULT -/

/-- The body of a CAL_RESULT with an outcome (R180). -/
def calResultBody (o : CalOutcome) : List Byte := [match o with | .good => 0#8 | .disturbed => 1#8 | .failed => 2#8]

theorem parseCalResult_calResultBody (o : CalOutcome) : parseCalResult (calResultBody o) = some o := by cases o <;> rfl

theorem State.hearsHead_of {s : State} {h : Nat} (hs : s.line.state = .running ∨ s.line.state = .stopped)
    (hr : s.line.resetting = false) (hpos : 1 ≤ h) (hle : h ≤ s.line.config.hn) (ha : (s.head h).state ≠ .absent) :
    s.hearsHead h = true := by
  have takes : s.takesLugs = true := by rcases hs with hs | hs <;> simp [State.takesLugs, hs, hr]
  simp [State.hearsHead, takes, hpos, hle, ha, State.config]

theorem State.calResult_of_corrupt (s : State) (h : Nat) (t : Tag) (body : List Byte) : s.calResult h t false body = s := by
  rw [State.calResult, Bool.and_false]
  rfl

theorem State.calResult_of_none {s : State} {t : Tag} (hc : ∀ x ∈ s.intake.calibrations, x.serial ≠ t) (h : Nat)
    (ok : Bool) (body : List Byte) : s.calResult h t ok body = s := by
  have found : (s.intake.calibrations.find? fun x => x.serial = t) = none := by simpa using hc
  unfold State.calResult
  rw [found]
  split <;> rfl

theorem State.calResult_of_held {s : State} {h : Nat} {c : Calibration} (heard : s.hearsHead h = true) (hc : s.Holds c)
    (o : CalOutcome) :
    s.calResult h c.serial true (calResultBody o) =
      if { head := h, outcome := none } ∈ c.members then s.takeCalibration h c o else s := by
  unfold State.calResult
  rw [heard, hc.find, parseCalResult_calResultBody]
  rfl

/-- The scan intake with one head changed and out of every calibration. -/
def Intake.leave (i : Intake) (h : Nat) (f : Head → Head) : Intake :=
  { heads := i.heads.modify (h - 1) f
    calibrations := i.calibrations.map fun x => { x with members := x.members.filter fun m => m.head ≠ h } }

theorem State.leaveCalibration_eq (s : State) {h : Nat} (hpos : 1 ≤ h) :
    s.leaveCalibration h = { s with intake := s.intake.leave h fun e => { e with membership := none } } :=
  if_neg (by omega)

theorem State.mapHead_leave (s : State) {h : Nat} (hpos : 1 ≤ h) (f g : Head → Head) :
    ({ s with intake := s.intake.leave h f } : State).mapHead h g = { s with intake := s.intake.leave h (g ∘ f) } := by
  rw [State.mapHead, if_neg (by omega)]
  simp only [Intake.leave, List.modify_modify_eq]

theorem State.settle_good (s : State) {h : Nat} (hpos : 1 ≤ h) :
    s.works [.settle h .good] =
      State.refreshAttention
        { s with
          intake :=
            s.intake.leave h fun e =>
              { e with state := .active, counter := s.line.config.ci, misses := 0, membership := none } } := by
  have done : s.work (.settle h .good) = ((s.settleHead h .good).1, []) := rfl
  rw [State.works_of_done done, State.settleGood_eq, s.leaveCalibration_eq hpos, State.mapHead_leave s hpos]
  rfl

theorem State.settle_disturbed (s : State) {h : Nat} (hpos : 1 ≤ h) :
    s.works [.settle h .disturbed] = { s with intake := s.intake.leave h fun e => { e with membership := none } } := by
  have done : s.work (.settle h .disturbed) = (s.leaveCalibration h, []) := rfl
  rw [State.works_of_done done, s.leaveCalibration_eq hpos]

theorem State.settle_failed (s : State) {h : Nat} (hpos : 1 ≤ h) (hm : (s.head h).misses < 2) :
    s.works [.settle h .failed] =
      { s with
        intake := s.intake.leave h fun e => { e with membership := none, misses := (s.head h).misses + 1 } } := by
  obtain ⟨m, -, ends⟩ := runWorks_dues (xs := [(h, .settled .failed)]) (s := s) (n := 0) (fuel := s.workFuel)
    (List.nodup_singleton _) (by simpa using hm) (by simp [State.workFuel]; omega) []
  calc s.works [.settle h .failed]
    _ = (s.leaveCalibration h).addMiss h := ends.trans (runWorks_nil _ _)
    _ = (s.leaveCalibration h).mapHead h fun e => { e with misses := (s.head h).misses + 1 } := by
        rw [State.addMiss, State.leaveCalibration_misses]
    _ = _ := by
        rw [s.leaveCalibration_eq hpos, State.mapHead_leave s hpos]
        rfl

/-! ### The choice of a calibration lug -/

/-- R28: whether a head is due and in no calibration. -/
def Head.wants (e : Head) : Bool := (e.state == .pendingCal || e.state == .stale) && e.membership == none

theorem Head.wants_iff (e : Head) :
    e.wants = true ↔ (e.state = .pendingCal ∨ e.state = .stale) ∧ e.membership = none := by
  simp [Head.wants]

theorem wantCalibration_eq (l : List Head) : wantCalibration 1 l = headsSuchThat Head.wants l :=
  eq_headsSuchThat (fun _ => rfl) (fun n e es => by simp only [wantCalibration, Head.wants_iff]) l

/-- With the whole table there, the heads that pass a test are those of heads 1 to 12 that pass it. -/
theorem State.headsSuchThat_heads {s : State} (hlen : s.intake.heads.length = 12) (p : Head → Bool) :
    headsSuchThat p s.intake.heads = ((List.range 12).map (· + 1)).filter fun h => p (s.head h) := by
  unfold headsSuchThat
  rw [hlen]
  refine List.filter_congr fun h hh => ?_
  obtain ⟨k, hk, rfl⟩ := List.mem_map.1 hh
  have place := List.getElem?_eq_getElem (hlen.symm ▸ List.mem_range.1 hk : k < s.intake.heads.length)
  rw [State.head_of_getElem? place, Nat.add_sub_cancel, place]
  rfl

/-- The heads of a list in the calibration of a serial. -/
def State.joined (s : State) (t : Tag) (hs : List Nat) : State :=
  hs.foldl (fun x h => x.mapHead h fun e => { e with membership := some t }) s

theorem State.joined_calibrations (s : State) (t : Tag) (hs : List Nat) :
    (s.joined t hs).intake.calibrations = s.intake.calibrations := by
  unfold State.joined
  induction hs generalizing s with
  | nil => rfl
  | cons h hs ih => rw [List.foldl_cons, ih, State.mapHead_calibrations]

theorem State.joined_heads (s : State) (t : Tag) :
    (s.joined t (headsSuchThat Head.wants s.intake.heads)).intake.heads =
      s.intake.heads.map fun e => if e.wants then { e with membership := some t } else e := by
  refine List.ext_getElem? fun k => ?_
  rw [State.joined, foldl_heads_of_idempotent (f := fun e => { e with membership := some t }) (fun _ => rfl)
    fun s h k => s.mapHead_heads h k _, List.getElem?_map]
  refine Option.map_congr fun e he => ?_
  simp only [succ_mem_headsSuchThat, he, Option.some.injEq, exists_eq_left']

theorem State.joined_eq (s : State) (t : Tag) :
    s.joined t (headsSuchThat Head.wants s.intake.heads) =
      { s with
        intake :=
          { s.intake with heads := s.intake.heads.map fun e => if e.wants then { e with membership := some t } else e } } := by
  have same : s.sameExcept [.intake] (s.joined t (headsSuchThat Head.wants s.intake.heads)) :=
    .foldl (fun x h => x.mapHead_same h _) _ s
  have intake : (s.joined t (headsSuchThat Head.wants s.intake.heads)).intake = ⟨_, _⟩ := rfl
  rw [State.joined_heads, State.joined_calibrations] at intake
  rw [same.eq_withIntake, intake]

theorem State.chooseCalibration_of_empty_lug {s : State} {e : EyeSample} (he : s.tracker.eye = some e)
    (hl : e.loaded = false) (hdue : headsSuchThat Head.wants s.intake.heads ≠ []) :
    s.chooseCalibration =
      { s with
        intake :=
          { heads := s.intake.heads.map fun x => if x.wants then { x with membership := some e.serial } else x
            calibrations :=
              s.intake.calibrations ++
                [{ serial := e.serial
                   members := (headsSuchThat Head.wants s.intake.heads).map fun h => { head := h, outcome := none }
                   kept := none }] }
        outputs :=
          s.outputs ++
            [.link (sentFrame .calibrate e.serial (le2 (headMask (headsSuchThat Head.wants s.intake.heads))))] } := by
  have opens : (!e.loaded && !(headsSuchThat Head.wants s.intake.heads).isEmpty) = true := by simp [hl, hdue]
  let sent := s.sendLink .calibrate e.serial (le2 (headMask (headsSuchThat Head.wants s.intake.heads)))
  unfold State.chooseCalibration
  rw [wantCalibration_eq, he]
  simp only [opens, if_true]
  change (sent.joined e.serial (headsSuchThat Head.wants sent.intake.heads)).setCalibrations
    ((sent.joined e.serial (headsSuchThat Head.wants sent.intake.heads)).intake.calibrations ++ _) = _
  rw [State.joined_eq]
  rfl

theorem State.chooseCalibration_of_not {s : State}
    (h : s.tracker.eye = none ∨ (∃ e, s.tracker.eye = some e ∧ e.loaded = true) ∨
      headsSuchThat Head.wants s.intake.heads = []) : s.chooseCalibration = s := by
  unfold State.chooseCalibration
  rw [wantCalibration_eq]
  rcases h with he | ⟨e, he, hl⟩ | hn
  · rw [he]
  · rw [he]
    simp [hl]
  · rw [hn]
    cases s.tracker.eye <;> simp

end Sys2Proof.Machine
end

section
/-! SUPPORT. The close of a calibration's serial (R29, R31) and the calibration's own close at position AW (R30). -/

namespace Sys2Proof.Machine

/-! ### Members -/

/-- A calibration whose members can be settled: one of its serial, its members heads 1 to 12, each once, none of whom a
miss would retire. -/
structure State.Settles (s : State) (c : Calibration) : Prop extends s.Holds c where
  nodup : (c.members.map fun m => m.head).Nodup
  ready : ∀ m ∈ c.members, 1 ≤ m.head ∧ m.head ≤ 12 ∧ (s.head m.head).misses < 2

theorem State.Settles.eq_of_head {s : State} {c : Calibration} (hc : s.Settles c) {m n : Member} (hm : m ∈ c.members)
    (hn : n ∈ c.members) (h : m.head = n.head) : m = n :=
  List.inj_on_of_nodup_map hc.nodup hm hn h

theorem State.Settles.find_member {s : State} {c : Calibration} (hc : s.Settles c) {m : Member} (hm : m ∈ c.members) :
    (c.members.find? fun x => x.head == m.head) = some m := by
  have found : (c.members.find? fun x => x.head == m.head).isSome := List.find?_isSome.2 ⟨m, hm, by simp⟩
  obtain ⟨x, hx⟩ := Option.isSome_iff_exists.1 found
  rw [hx, hc.eq_of_head (List.mem_of_find?_eq_some hx) hm (by simpa using List.find?_some hx)]

theorem State.Settles.length_le {s : State} {c : Calibration} (hc : s.Settles c) : c.members.length ≤ 12 := by
  have sub : (c.members.map fun m => m.head) ⊆ (List.range 12).map (· + 1) := by
    intro h hh
    obtain ⟨m, hm, rfl⟩ := List.mem_map.1 hh
    obtain ⟨hpos, hle, -⟩ := hc.ready m hm
    exact List.mem_map.2 ⟨m.head - 1, List.mem_range.2 (by omega), by omega⟩
  simpa using (hc.nodup.subperm sub).length_le

/-- What a member with a held outcome is owed when assembly closes. -/
def Member.due (kept : Bool) (m : Member) : Option (Nat × Due) :=
  m.outcome.map fun o => (m.head, .settled (settledAs kept o))

/-- What the close of a window owes: a miss to each missing head, and each held outcome. -/
def closeDues (w : List HeadView) (members : List Member) (kept : Bool) : List (Nat × Due) :=
  (missingHeads w).map (fun h => (h, .missed)) ++ members.filterMap (Member.due kept)

theorem mem_heldDues {members : List Member} {kept : Bool} {h : Nat} {d : Due} :
    (h, d) ∈ members.filterMap (Member.due kept) ↔
      ∃ o, { head := h, outcome := some o } ∈ members ∧ d = .settled (settledAs kept o) := by
  rw [List.mem_filterMap]
  constructor
  · rintro ⟨⟨g, _ | o⟩, hm, hd⟩
    · cases hd
    · cases hd
      exact ⟨o, hm, rfl⟩
  · rintro ⟨o, hm, rfl⟩
    exact ⟨_, hm, rfl⟩

theorem missed_mem_closeDues {w : List HeadView} {members : List Member} {kept : Bool} {h : Nat} :
    (h, .missed) ∈ closeDues w members kept ↔ h ∈ missingHeads w := by
  rw [closeDues, List.mem_append, mem_heldDues]
  simp

theorem settled_mem_closeDues {w : List HeadView} {members : List Member} {kept : Bool} {h : Nat} {o : CalOutcome} :
    (h, .settled o) ∈ closeDues w members kept ↔
      ∃ p, { head := h, outcome := some p } ∈ members ∧ o = settledAs kept p := by
  rw [closeDues, List.mem_append, mem_heldDues]
  simp

theorem heldDues_heads (kept : Bool) (members : List Member) :
    (members.filterMap (Member.due kept)).map Prod.fst =
      (members.filter fun m => m.outcome.isSome).map fun m => m.head := by
  induction members with
  | nil => rfl
  | cons m ms ih =>
    obtain ⟨h, _ | o⟩ := m
    · exact ih
    · exact congrArg (h :: ·) ih

/-! ### The close of a calibration's serial -/

/-- A SCANNING record with a full window, of a serial being calibrated: its members are not expected, and no missing head
is retired by its miss. -/
structure State.Assembles (s : State) (c : Calibration) (b : Board) (w : List HeadView) : Prop where
  tags : (s.tracker.ring.map fun x => x.tag).Nodup
  mem : b ∈ s.tracker.ring
  tag : b.tag = c.serial
  scanning : b.state = .scanning
  window : b.window = some w
  length : w.length = 12
  unexpected : ∀ m ∈ c.members, (viewOf w m.head).expected = false
  early : ∀ h ∈ missingHeads w, (s.head h).misses < 2

section
variable {s : State} {c : Calibration} {b : Board} {w : List HeadView}

theorem State.Assembles.not_missing (hb : s.Assembles c b w) {m : Member} (hm : m ∈ c.members) :
    m.head ∉ missingHeads w := by
  rw [mem_missingHeads, hb.unexpected m hm]
  simp

theorem State.Holds.heldSettles (hc : s.Holds c) (kept : Bool) :
    s.heldSettles c.serial kept = (c.members.filterMap (Member.due kept)).map Due.work := by
  unfold State.heldSettles
  rw [hc.filter, List.flatMap_singleton, List.map_filterMap]
  refine List.filterMap_congr fun m _ => ?_
  cases hm : m.outcome <;> simp [Member.due, hm, Due.work]

theorem State.closeBoard_of_assembling (hc : s.Holds c) (hb : s.Assembles c b w) :
    s.closeBoard c.serial =
      ((s.closedRecord b w).draw,
        (permuteBy (Config.headOrder (s.closedRecord b w).draws) (closeDues w c.members (windowKept w))).map Due.work) := by
  have found := State.findBoard_of_mem hb.tags hb.mem
  rw [hb.tag] at found
  unfold State.closeBoard
  rw [found]
  simp only [hb.scanning, hb.window, hc.heldSettles, ← permuteBy_map, closeDues, List.map_append, List.map_map]
  unfold State.closedRecord
  rw [hb.tag]
  rfl

theorem State.Settles.closeDues_nodup (hc : s.Settles c) (hb : s.Assembles c b w) (kept : Bool) :
    ((closeDues w c.members kept).map Prod.fst).Nodup := by
  rw [closeDues, List.map_append, List.map_map, heldDues_heads]
  refine List.Nodup.append ?_ (hc.nodup.sublist (List.filter_sublist.map _)) ?_
  · exact (List.map_id' _).symm ▸ headsWhere_nodup _ _ _
  · intro h hmiss hheld
    obtain ⟨m, hm, rfl⟩ := List.mem_map.1 hheld
    exact hb.not_missing (List.mem_of_mem_filter hm) (by simpa using hmiss)

theorem State.Settles.closeDues_ready (hc : s.Settles c) (hb : s.Assembles c b w) {kept : Bool} {x : Nat × Due}
    (hx : x ∈ closeDues w c.members kept) : (s.head x.1).misses < 2 := by
  obtain ⟨h, d⟩ := x
  cases d with
  | missed => exact hb.early h (missed_mem_closeDues.1 hx)
  | settled o =>
    obtain ⟨p, hp, -⟩ := settled_mem_closeDues.1 hx
    exact (hc.ready _ hp).2.2

theorem State.Settles.closeDues_length (hc : s.Settles c) (hb : s.Assembles c b w) (kept : Bool) :
    (closeDues w c.members kept).length ≤ 24 := by
  have missing : (missingHeads w).length ≤ w.length := headsWhere_length_le _ _ _
  have held : (c.members.filterMap (Member.due kept)).length ≤ c.members.length := List.length_filterMap_le _ _
  have := hc.length_le
  have := hb.length
  rw [closeDues, List.length_append, List.length_map]
  omega

theorem State.closedRecord_heads (s : State) (b : Board) (w : List HeadView) :
    (s.closedRecord b w).draw.intake.heads = s.intake.heads :=
  (s.closedRecord_intake b w).1

/-- R29: what the close of the record tells the calibrations. -/
theorem State.closedRecord_calibrations (s : State) (b : Board) (w : List HeadView) :
    (s.closedRecord b w).draw.intake.calibrations =
      s.intake.calibrations.map fun x => if x.serial = b.tag then { x with kept := some (windowKept w) } else x := by
  have kept : (if windowKept w then s.keepBoard b w else s.removeBoard b.tag).intake = s.intake := by
    split
    · exact s.keepBoard_same b w .intake (by decide)
    · exact s.removeBoard_same b.tag .intake (by decide)
  rw [← kept]
  rfl

/-- The close of a calibration's serial: its dues, in some order, discharged on the state with the record closed. -/
theorem runWorks_close (hc : s.Settles c) (hb : s.Assembles c b w) {n fuel : Nat} (hfuel : n + 49 ≤ fuel)
    (ws : List Work) :
    ∃ (xs : List (Nat × Due)) (m : Nat), xs.Perm (closeDues w c.members (windowKept w)) ∧ n ≤ m ∧
      runWorks fuel (.close c.serial :: ws) s = runWorks m ws (xs.foldl State.discharge (s.closeBoard c.serial).1) := by
  have closes := State.closeBoard_of_assembling hc.toHolds hb
  have perm := permuteBy_perm (Config.headOrder (s.closedRecord b w).draws) (closeDues w c.members (windowKept w))
  generalize permuteBy (Config.headOrder (s.closedRecord b w).draws) (closeDues w c.members (windowKept w)) = xs
    at closes perm
  have nodup := (perm.map Prod.fst).nodup_iff.2 (hc.closeDues_nodup hb _)
  have ready : ∀ x ∈ xs, ((s.closeBoard c.serial).1.head x.1).misses < 2 := by
    intro x hx
    have same : (s.closeBoard c.serial).1.head x.1 = s.head x.1 := by
      unfold State.head
      rw [closes, State.closedRecord_heads]
    rw [same]
    exact hc.closeDues_ready hb (perm.mem_iff.1 hx)
  have short := hc.closeDues_length hb (windowKept w)
  rw [← perm.length_eq] at short
  obtain ⟨j, rfl⟩ : ∃ j, fuel = j + 1 := ⟨fuel - 1, by omega⟩
  obtain ⟨m, hm, rest⟩ := runWorks_dues nodup ready (show n + 2 * xs.length ≤ j by omega) ws
  refine ⟨xs, m, perm, hm, Eq.trans ?_ rest⟩
  rw [runWorks, State.work, closes]

/-! ### What the close leaves -/

/-- A calibration's members but for those with the heads of a list. -/
def Calibration.withoutAll (l : List Member) (x : Calibration) : Calibration :=
  { x with members := x.members.filter fun m => l.all fun q => q.head != m.head }

theorem Calibration.afterDues_eq_withoutAll {xs : List (Nat × Due)} {l : List Member}
    (h : ∀ g, (∃ x ∈ xs, x.2.leaves = true ∧ x.1 = g) ↔ ∃ q ∈ l, q.head = g) (c : Calibration) :
    c.afterDues xs = c.withoutAll l := by
  refine congrArg (fun p => { c with members := c.members.filter p }) (funext fun m => ?_)
  have := h m.head
  rw [Bool.eq_iff_iff, List.all_eq_true, List.all_eq_true]
  simp only [Bool.not_eq_true', Bool.and_eq_false_imp, beq_eq_false_iff_ne, bne_iff_ne]
  constructor
  · intro hx q hq he
    obtain ⟨x, hmem, hl, hg⟩ := this.2 ⟨q, hq, he⟩
    exact hx x hmem hl hg
  · intro hl x hx hlv he
    obtain ⟨q, hq, hg⟩ := this.1 ⟨x, hx, hlv, he⟩
    exact hl q hq hg

theorem Calibration.withoutAll_append (l m : List Member) (c : Calibration) :
    c.withoutAll (l ++ m) = (c.withoutAll l).withoutAll m := by
  simp [Calibration.withoutAll, List.filter_filter, Bool.and_comm]

/-- The members that hold an outcome. -/
def Calibration.held (c : Calibration) : List Member := c.members.filter fun m => m.outcome.isSome

/-- The members that wait for one. -/
def Calibration.waiting (c : Calibration) : List Member := c.members.filter fun m => m.outcome.isNone

theorem Calibration.mem_waiting {c : Calibration} {m : Member} : m ∈ c.waiting ↔ m ∈ c.members ∧ m.outcome = none := by
  simp [Calibration.waiting]

theorem Calibration.mem_held {c : Calibration} {m : Member} : m ∈ c.held ↔ m ∈ c.members ∧ ∃ o, m.outcome = some o := by
  simp [Calibration.held, Option.isSome_iff_exists]

theorem Calibration.withoutAll_held_waiting (c x : Calibration) :
    (x.withoutAll c.held).withoutAll c.waiting = x.withoutAll c.members := by
  rw [← Calibration.withoutAll_append]
  refine congrArg (fun p => { x with members := x.members.filter p }) (funext fun m => ?_)
  rw [Bool.eq_iff_iff, List.all_eq_true, List.all_eq_true]
  refine forall_congr' fun q => ?_
  rw [List.mem_append, Calibration.mem_held, Calibration.mem_waiting]
  cases q.outcome <;> simp

/-- A calibration once assembly has closed for the serial of c (R29, R30): its held members are out of every calibration,
and its own knows whether the record was kept. -/
def Calibration.closedBy (c : Calibration) (kept : Bool) (x : Calibration) : Calibration :=
  if x.serial = c.serial then { x.withoutAll c.held with kept := some kept } else x.withoutAll c.held

theorem Calibration.closedBy_serial (c : Calibration) (kept : Bool) (x : Calibration) :
    (c.closedBy kept x).serial = x.serial := by
  unfold Calibration.closedBy
  split <;> rfl

theorem Calibration.closedBy_of_ne {c x : Calibration} (h : x.serial ≠ c.serial) (kept : Bool) :
    c.closedBy kept x = x.withoutAll c.held :=
  if_neg h

theorem State.Settles.members_closedBy (hc : s.Settles c) (kept : Bool) : (c.closedBy kept c).members = c.waiting := by
  rw [Calibration.closedBy, if_pos rfl]
  refine List.filter_congr fun m hm => ?_
  rw [Bool.eq_iff_iff, List.all_eq_true, Option.isNone_iff_eq_none]
  simp only [bne_iff_ne]
  constructor
  · intro h
    cases ho : m.outcome with
    | none => rfl
    | some o => exact absurd rfl (h m (Calibration.mem_held.2 ⟨hm, o, ho⟩))
  · intro h q hq he
    obtain ⟨hq, o, ho⟩ := Calibration.mem_held.1 hq
    rw [hc.eq_of_head hq hm he, h] at ho
    cases ho

/-- R30: a head after the close of its calibration's serial, and its due miss or outcome. -/
def headAfterClose (ci : Nat) (w : List HeadView) (members : List Member) (h : Nat) (e : Head) : Head :=
  if h ∈ missingHeads w then Due.missed.on ci e
  else
    match members.find? fun m => m.head == h with
    | some ⟨_, some o⟩ => (Due.settled (settledAs (windowKept w) o)).on ci e
    | _ => e

variable {xs : List (Nat × Due)}

theorem State.closeBoard_config (s : State) (t : Tag) : (s.closeBoard t).1.line.config = s.line.config :=
  (s.closeBoard_lugKept t).config

theorem State.discharged_heads (hc : s.Settles c) (hb : s.Assembles c b w)
    (perm : xs.Perm (closeDues w c.members (windowKept w))) {k : Nat} {e : Head} (he : s.intake.heads[k]? = some e) :
    (xs.foldl State.discharge (s.closeBoard c.serial).1).intake.heads[k]? =
      some (headAfterClose s.line.config.ci w c.members (k + 1) e) := by
  have closed : (s.closeBoard c.serial).1.intake.heads[k]? = some e := by
    rw [State.closeBoard_of_assembling hc.toHolds hb, State.closedRecord_heads, he]
  have nodup := (perm.map Prod.fst).nodup_iff.2 (hc.closeDues_nodup hb _)
  have owed : ∀ d, (k + 1, d) ∈ closeDues w c.members (windowKept w) →
      (xs.foldl State.discharge (s.closeBoard c.serial).1).intake.heads[k]? = some (d.on s.line.config.ci e) := by
    intro d hd
    rw [State.foldl_discharge_heads_of_mem nodup (perm.mem_iff.2 hd), closed, Option.map_some, State.closeBoard_config]
  unfold headAfterClose
  split
  · rename_i hmiss
    exact owed .missed (missed_mem_closeDues.2 hmiss)
  · rename_i hmiss
    split
    · rename_i g o hfind
      obtain rfl : g = k + 1 := by simpa using List.find?_some hfind
      exact owed _ (settled_mem_closeDues.2 ⟨o, List.mem_of_find?_eq_some hfind, rfl⟩)
    · rename_i hnone
      rw [State.foldl_discharge_heads_of_not_mem, closed]
      intro hk
      obtain ⟨⟨g, d⟩, hx, rfl⟩ := List.mem_map.1 hk
      have hx := perm.mem_iff.1 hx
      cases d with
      | missed => exact hmiss (missed_mem_closeDues.1 hx)
      | settled o =>
        obtain ⟨p, hp, -⟩ := settled_mem_closeDues.1 hx
        exact hnone _ _ (hc.find_member hp)

theorem State.discharged_calibrations (hc : s.Settles c) (hb : s.Assembles c b w)
    (perm : xs.Perm (closeDues w c.members (windowKept w))) :
    (xs.foldl State.discharge (s.closeBoard c.serial).1).intake.calibrations =
      s.intake.calibrations.map (c.closedBy (windowKept w)) := by
  have leave : ∀ x : Calibration, x.afterDues xs = x.withoutAll c.held := by
    refine Calibration.afterDues_eq_withoutAll fun g => ?_
    constructor
    · rintro ⟨⟨h, _ | o⟩, hx, hl, rfl⟩
      · cases hl
      · obtain ⟨p, hp, -⟩ := settled_mem_closeDues.1 (perm.mem_iff.1 hx)
        exact ⟨_, Calibration.mem_held.2 ⟨hp, p, rfl⟩, rfl⟩
    · rintro ⟨⟨h, o⟩, hq, rfl⟩
      obtain ⟨hq, p, rfl⟩ := Calibration.mem_held.1 hq
      exact ⟨_, perm.mem_iff.2 (settled_mem_closeDues.2 ⟨p, hq, rfl⟩), rfl, rfl⟩
  rw [State.foldl_discharge_calibrations, State.closeBoard_of_assembling hc.toHolds hb, State.closedRecord_calibrations,
    List.map_map, hb.tag]
  refine List.map_congr_left fun x _ => (leave _).trans ?_
  by_cases hx : x.serial = c.serial <;> simp [hx, Calibration.closedBy, Calibration.withoutAll]

end

/-! ### The close of a calibration -/

/-- A FAILED outcome owed to each head of a list (R30). -/
def failedDues (hs : List Nat) : List (Nat × Due) := hs.map fun h => (h, .settled .failed)

theorem failedDues_heads (hs : List Nat) : (failedDues hs).map Prod.fst = hs := by
  rw [failedDues, List.map_map]
  exact List.map_id hs

theorem mem_failedDues {hs : List Nat} {x : Nat × Due} : x ∈ failedDues hs ↔ x.1 ∈ hs ∧ x.2 = .settled .failed := by
  obtain ⟨h, d⟩ := x
  simp [failedDues, eq_comm]

theorem State.foldl_failedDues_same (s : State) (hs : List Nat) :
    s.sameExcept [.intake] ((failedDues hs).foldl State.discharge s) := by
  rw [failedDues, List.foldl_map]
  exact .foldl (fun s h => (s.leaveCalibration_same h).trans (State.mapHead_same _ h _)) hs s

/-- A state with the calibration of a serial gone. -/
def State.dropCalibration (s : State) (t : Tag) : State :=
  (s.setCalibrations (s.intake.calibrations.filter fun x => x.serial ≠ t)).draw

theorem runWorks_closeCalibration_eq {s : State} {c : Calibration} (hc : s.Settles c) {fuel : Nat} (hfuel : 25 ≤ fuel) :
    ∃ hs : List Nat, hs.Perm (c.members.map fun m => m.head) ∧
      runWorks fuel [.closeCalibration c.serial] s = (failedDues hs).foldl State.discharge (s.dropCalibration c.serial) := by
  have works : ((s.intake.calibrations.filter fun x => x.serial = c.serial).flatMap fun x =>
      x.members.map fun m => Work.settle m.head .failed) =
        (c.members.map fun m => m.head).map fun h => Work.settle h .failed := by
    rw [hc.filter, List.flatMap_singleton, List.map_map]
    rfl
  have closes : s.work (.closeCalibration c.serial) =
      (s.dropCalibration c.serial,
        (failedDues (permuteBy (Config.headOrder s.draws) (c.members.map fun m => m.head))).map Due.work) := by
    rw [failedDues, List.map_map]
    change _ = (_, (permuteBy _ _).map fun h => Work.settle h .failed)
    rw [← permuteBy_map, ← works]
    rfl
  have perm := permuteBy_perm (Config.headOrder s.draws) (c.members.map fun m => m.head)
  generalize permuteBy (Config.headOrder s.draws) (c.members.map fun m => m.head) = hs at closes perm
  have nodup : ((failedDues hs).map Prod.fst).Nodup := by
    rw [failedDues_heads]
    exact perm.nodup_iff.2 hc.nodup
  have ready : ∀ x ∈ failedDues hs, ((s.dropCalibration c.serial).head x.1).misses < 2 := by
    intro x hx
    obtain ⟨m, hm, hh⟩ := List.mem_map.1 (perm.mem_iff.1 (mem_failedDues.1 hx).1)
    rw [← hh]
    exact (hc.ready m hm).2.2
  have short : (failedDues hs).length ≤ 12 := by
    rw [failedDues, List.length_map, perm.length_eq, List.length_map]
    exact hc.length_le
  obtain ⟨j, rfl⟩ : ∃ j, fuel = j + 1 := ⟨fuel - 1, by omega⟩
  obtain ⟨m, -, rest⟩ := runWorks_dues nodup ready (show 0 + 2 * (failedDues hs).length ≤ j by omega) []
  refine ⟨hs, perm, ?_⟩
  rw [runWorks, closes]
  exact rest.trans (runWorks_nil _ _)

/-- R30: at its close each member of a calibration is settled FAILED, and the calibration is gone. -/
theorem runWorks_closeCalibration {s : State} {c : Calibration} (hc : s.Settles c) {fuel : Nat} (hfuel : 25 ≤ fuel) :
    s.draw.sameExcept [.intake] (runWorks fuel [.closeCalibration c.serial] s) ∧
      (runWorks fuel [.closeCalibration c.serial] s).intake.heads.length = s.intake.heads.length ∧
      (runWorks fuel [.closeCalibration c.serial] s).intake.calibrations =
        (s.intake.calibrations.filter fun x => x.serial ≠ c.serial).map (Calibration.withoutAll c.members) ∧
      ∀ k, (runWorks fuel [.closeCalibration c.serial] s).intake.heads[k]? =
        (s.intake.heads[k]?).map fun e =>
          if k + 1 ∈ c.members.map fun m => m.head then (Due.settled .failed).on s.line.config.ci e else e := by
  obtain ⟨hs, perm, ends⟩ := runWorks_closeCalibration_eq hc hfuel
  rw [ends]
  refine ⟨?_, State.foldl_discharge_heads_length _ _, ?_, fun k => ?_⟩
  · have dropped : s.draw.sameExcept [.intake] (s.dropCalibration c.serial) := s.draw.setCalibrations_same _
    exact dropped.trans (State.foldl_failedDues_same _ hs)
  · rw [State.foldl_discharge_calibrations]
    refine List.map_congr_left fun x _ => Calibration.afterDues_eq_withoutAll (fun g => ?_) x
    have member : g ∈ hs ↔ ∃ q ∈ c.members, q.head = g := perm.mem_iff.trans List.mem_map
    rw [← member]
    constructor
    · rintro ⟨x, hx, -, rfl⟩
      exact (mem_failedDues.1 hx).1
    · intro hg
      exact ⟨(g, .settled .failed), mem_failedDues.2 ⟨hg, rfl⟩, rfl, rfl⟩
  · have table : (s.dropCalibration c.serial).intake.heads = s.intake.heads := rfl
    by_cases hk : k + 1 ∈ c.members.map fun m => m.head
    · have nodup : ((failedDues hs).map Prod.fst).Nodup := by
        rw [failedDues_heads]
        exact perm.nodup_iff.2 hc.nodup
      rw [State.foldl_discharge_heads_of_mem nodup (mem_failedDues.2 ⟨perm.mem_iff.2 hk, rfl⟩), table]
      simp only [hk, if_true]
      rfl
    · rw [State.foldl_discharge_heads_of_not_mem (by rwa [failedDues_heads, perm.mem_iff]), table]
      simp only [hk, if_false, Option.map_id']

/-! ### The works of a close, and the window close -/

/-- What the close of a calibration's serial, with all it sets off, leaves. -/
structure State.ClosedFor (s : State) (c : Calibration) (w : List HeadView) (t : State) : Prop where
  same : (s.closeBoard c.serial).1.sameExcept [.intake, .trimmer, .consolePort] t
  length : t.intake.heads.length = s.intake.heads.length
  heads : ∀ k e, s.intake.heads[k]? = some e →
    t.intake.heads[k]? = some (headAfterClose s.line.config.ci w c.members (k + 1) e)
  calibrations : t.intake.calibrations = s.intake.calibrations.map (c.closedBy (windowKept w))

section
variable {s t : State} {c : Calibration} {b : Board} {w : List HeadView}

theorem runWorks_closedFor (hc : s.Settles c) (hb : s.Assembles c b w) {n fuel : Nat} (hfuel : n + 49 ≤ fuel)
    (ws : List Work) :
    ∃ t m, s.ClosedFor c w t ∧ n ≤ m ∧ runWorks fuel (.close c.serial :: ws) s = runWorks m ws t := by
  obtain ⟨xs, m, perm, hm, ends⟩ := runWorks_close hc hb hfuel ws
  refine ⟨_, m, ⟨State.foldl_discharge_same _ xs, ?_, fun k e he => State.discharged_heads hc hb perm he,
    State.discharged_calibrations hc hb perm⟩, hm, ends⟩
  rw [State.foldl_discharge_heads_length, State.closeBoard_of_assembling hc.toHolds hb, State.closedRecord_heads]

theorem works_closedFor (hc : s.Settles c) (hb : s.Assembles c b w) : s.ClosedFor c w (s.works [.close c.serial]) := by
  obtain ⟨t, m, closed, -, ends⟩ := runWorks_closedFor hc hb (n := 0) (fuel := s.workFuel) (by unfold State.workFuel; omega) []
  rw [runWorks_nil] at ends
  rwa [State.works, ends]

theorem State.ClosedFor.config (h : s.ClosedFor c w t) : t.line.config = s.line.config := by
  have line : t.line = (s.closeBoard c.serial).1.line := h.same .line (by decide)
  rw [line, State.closeBoard_config]

/-- R30: a member without an outcome waits through the close. -/
theorem headAfterClose_of_waiting (hc : s.Settles c) (hb : s.Assembles c b w) {m : Member} (hm : m ∈ c.waiting) (ci : Nat)
    (e : Head) : headAfterClose ci w c.members m.head e = e := by
  obtain ⟨hm, hnone⟩ := Calibration.mem_waiting.1 hm
  obtain ⟨h, o⟩ := m
  subst hnone
  rw [headAfterClose, if_neg (hb.not_missing hm), hc.find_member hm]

theorem State.ClosedFor.settles (h : s.ClosedFor c w t) (hc : s.Settles c) (hb : s.Assembles c b w)
    (hlen : s.intake.heads.length = 12) : t.Settles (c.closedBy (windowKept w) c) := by
  have members : (c.closedBy (windowKept w) c).members = c.waiting := hc.members_closedBy _
  constructor
  · constructor
    · have serials : (t.intake.calibrations.map fun x => x.serial) = s.intake.calibrations.map fun x => x.serial := by
        rw [h.calibrations, List.map_map]
        exact List.map_congr_left fun x _ => c.closedBy_serial _ x
      rw [serials]
      exact hc.serials
    · rw [h.calibrations]
      exact List.mem_map_of_mem hc.mem
  · rw [members]
    exact hc.nodup.sublist (List.filter_sublist.map _)
  · intro m hm
    rw [members] at hm
    obtain ⟨hpos, hle, hmiss⟩ := hc.ready m (Calibration.mem_waiting.1 hm).1
    refine ⟨hpos, hle, ?_⟩
    obtain ⟨k, hk⟩ : ∃ k, m.head = k + 1 := ⟨m.head - 1, by omega⟩
    have place := List.getElem?_eq_getElem (show k < s.intake.heads.length by omega)
    have stays := h.heads k _ place
    rw [← hk, headAfterClose_of_waiting hc hb hm] at stays
    rw [hk, State.head_of_getElem? stays]
    rwa [hk, State.head_of_getElem? place] at hmiss

/-- What the window close of a calibration's serial leaves (R23, R30). -/
theorem State.windowClose_of_assembling (hc : s.Settles c) (hb : s.Assembles c b w) (hlen : s.intake.heads.length = 12)
    (haw : s.tagAtPosition s.config.aw = c.serial) :
    (s.closeBoard c.serial).1.sameExcept [.intake, .trimmer, .consolePort, .draws] s.windowClose ∧
      s.windowClose.intake.heads.length = 12 ∧
      (∀ k e, s.intake.heads[k]? = some e →
        s.windowClose.intake.heads[k]? =
          some
            (if { head := k + 1, outcome := none } ∈ c.members then (Due.settled .failed).on s.line.config.ci e
            else headAfterClose s.line.config.ci w c.members (k + 1) e)) ∧
      s.windowClose.intake.calibrations =
        (s.intake.calibrations.filter fun x => x.serial ≠ c.serial).map (Calibration.withoutAll c.members) := by
  obtain ⟨t, m, closed, hm, ends⟩ := runWorks_closedFor hc hb (n := 25) (fuel := s.workFuel) (by unfold State.workFuel; omega)
    [.closeCalibration c.serial]
  have after : s.windowClose = runWorks m [.closeCalibration (c.closedBy (windowKept w) c).serial] t := by
    rw [State.windowClose, haw, Calibration.closedBy_serial]
    exact ends
  obtain ⟨same, length, calibrations, heads⟩ := runWorks_closeCalibration (closed.settles hc hb hlen) hm
  have members : (c.closedBy (windowKept w) c).members = c.waiting := hc.members_closedBy _
  rw [← after] at same length calibrations heads
  refine ⟨?_, length.trans (closed.length.trans hlen), fun k e he => ?_, ?_⟩
  · exact closed.same.after (t.draw_same.after same (k := [.intake, .draws]) (by decide) (by decide)) (by decide) (by decide)
  · rw [heads, closed.heads k e he, Option.map_some, closed.config, members]
    by_cases hk : { head := k + 1, outcome := none } ∈ c.members
    · have wait : { head := k + 1, outcome := none } ∈ c.waiting := Calibration.mem_waiting.2 ⟨hk, rfl⟩
      rw [if_pos hk, if_pos (List.mem_map.2 ⟨_, wait, rfl⟩)]
      rw [headAfterClose_of_waiting hc hb wait]
    · rw [if_neg hk, if_neg]
      intro hw
      obtain ⟨⟨g, o⟩, hm, rfl⟩ := List.mem_map.1 hw
      obtain ⟨hm, rfl⟩ := Calibration.mem_waiting.1 hm
      exact hk hm
  · have others : ∀ x : Calibration, x.serial ≠ c.serial →
        (c.closedBy (windowKept w) x).withoutAll c.waiting = x.withoutAll c.members := by
      intro x hx
      rw [Calibration.closedBy_of_ne hx, Calibration.withoutAll_held_waiting]
    rw [calibrations, closed.calibrations, members, List.filter_map, List.map_map]
    simp only [Function.comp_def, Calibration.closedBy_serial]
    exact List.map_congr_left fun x hx => others x (by simpa using (List.mem_filter.1 hx).2)

/-- R30, R31: with no SCANNING record of the serial its calibration closes alone. -/
theorem State.windowClose_of_calibration (haw : s.tagAtPosition s.config.aw = c.serial)
    (h : ∀ b ∈ s.tracker.ring, b.tag = c.serial → b.state ≠ .scanning) :
    ∃ m, 25 ≤ m ∧ s.windowClose = runWorks m [.closeCalibration c.serial] s := by
  refine ⟨s.workFuel - 1, by unfold State.workFuel; omega, ?_⟩
  obtain ⟨n, hn⟩ : ∃ n, s.workFuel = n + 1 := ⟨s.workFuel - 1, by unfold State.workFuel; omega⟩
  rw [State.windowClose, haw, State.works, hn, runWorks, State.work, State.closeBoard_of_not_scanning h]
  rfl

end

/-! ### Settlement of O11 -/

/-- R30: a good CAL_RESULT of a member without an outcome. -/
theorem execCalResult_of_member {s : State} {sender : Byte} {c : Calibration} (heard : s.hearsHead sender.toNat = true)
    (hc : s.Holds c) (hm : { head := sender.toNat, outcome := none } ∈ c.members) (o : CalOutcome) :
    exec (.calResult sender c.serial true (calResultBody o)) s = .next (s.takeCalibration sender.toNat c o) := by
  change Host.Outcome.next (s.calResult sender.toNat c.serial true (calResultBody o)) = _
  rw [State.calResult_of_held heard hc, if_pos hm]

theorem State.takeCalibration_of_kept {s : State} {c : Calibration} {kept : Bool} (hk : c.kept = some kept) (h : Nat)
    (o : CalOutcome) : s.takeCalibration h c o = s.works [.settle h (settledAs kept o)] := by
  unfold State.takeCalibration
  rw [hk]

theorem State.takeCalibration_of_open {s : State} {c : Calibration} (hk : c.kept = none) (h : Nat) (o : CalOutcome) :
    s.takeCalibration h c o =
      s.setCalibrations (s.intake.calibrations.map fun x =>
        if x.serial = c.serial then
          { x with members := x.members.map fun m => if m.head = h then { m with outcome := some o } else m }
        else x) := by
  unfold State.takeCalibration
  rw [hk]

/-- Settles O11: CAL_RESULT case by case, the choice of the calibration lug, and the close of a calibration's serial, whose
dues take effect in any order. -/
theorem calResultIsHeldOrSettled : Obligations.CalResultIsHeldOrSettled := by
  refine ⟨?_, fun before u hlen => ?_, fun u c hlen hserials hc hnodup hready => ?_⟩
  · rintro s sender serial body o c hs hr hpos hle ha rfl
    have heard := State.hearsHead_of hs hr hpos hle ha
    change exec (.calResult sender serial false (calResultBody o)) s = _ ∧ _
    refine ⟨?_, fun hnone => ?_, ?_⟩
    · exact congrArg Host.Outcome.next (s.calResult_of_corrupt _ _ _)
    · exact congrArg Host.Outcome.next (State.calResult_of_none hnone _ _ _)
    rintro hserials hc rfl
    have holds : s.Holds c := ⟨hserials, hc⟩
    refine ⟨fun hm => ?_, fun hm => ?_⟩
    · exact congrArg Host.Outcome.next ((State.calResult_of_held heard holds o).trans (if_neg hm))
    have taken := execCalResult_of_member heard holds hm o
    refine ⟨fun hk => ?_, fun hk ho => ?_, fun hk => ?_, fun hk ho hmiss => ?_⟩
    · exact taken.trans (congrArg Host.Outcome.next (State.takeCalibration_of_open hk _ _))
    · subst ho
      exact taken.trans (congrArg Host.Outcome.next ((State.takeCalibration_of_kept hk _ _).trans (s.settle_good hpos)))
    · have disturbed : s.takeCalibration sender.toNat c o = s.works [.settle sender.toNat .disturbed] := by
        rcases hk with hk | ⟨hk, rfl⟩ <;> exact State.takeCalibration_of_kept hk _ _
      exact taken.trans (congrArg Host.Outcome.next (disturbed.trans (s.settle_disturbed hpos)))
    · subst ho
      exact taken.trans
        (congrArg Host.Outcome.next ((State.takeCalibration_of_kept hk _ _).trans (s.settle_failed hpos hmiss)))
  · intro due
    have wants : headsSuchThat Head.wants u.intake.heads = due := State.headsSuchThat_heads hlen Head.wants
    refine ⟨fun e he hl hdue => ?_, fun hnot => ?_⟩
    · change u.chooseCalibration = _
      rw [State.chooseCalibration_of_empty_lug he hl (wants ▸ hdue), wants]
      simp only [Head.wants_iff]
      rfl
    · exact State.chooseCalibration_of_not (wants ▸ hnot)
  · intro settled without
    have settles : u.Settles c := ⟨⟨hserials, hc⟩, hnodup, hready⟩
    have settled_eq : ∀ o e, settled o e = (Due.settled o).on u.line.config.ci e := by
      intro o e
      cases o <;> rfl
    refine ⟨?_, ?_⟩
    · intro b w htags hb htag hs hw hwlen hexp missing hmiss kept after closed sameAsClosed
      have mem_missing : ∀ h, missing h = true ↔ h ∈ missingHeads w := fun h =>
        decide_eq_true_iff.trans mem_missingHeads.symm
      have assembles : u.Assembles c b w :=
        ⟨htags, hb, htag, hs, hw, hwlen, hexp, fun h hh => hmiss h ((mem_missing h).2 hh)⟩
      have after_eq : ∀ h e, after h e = headAfterClose u.line.config.ci w c.members h e := by
        intro h e
        by_cases hm : missing h = true
        · exact (if_pos hm).trans (if_pos ((mem_missing h).1 hm)).symm
        · refine (if_neg hm).trans (Eq.trans ?_ (if_neg fun hh => hm ((mem_missing h).2 hh)).symm)
          cases c.members.find? fun m => m.head == h with
          | none => rfl
          | some m =>
            obtain ⟨g, _ | o⟩ := m
            · rfl
            · exact settled_eq _ e
      have same : ∀ v : State, closed.sameExcept [.intake, .trimmer, .consolePort, .draws] v →
          v.intake.heads.length = 12 → sameAsClosed v := fun v hv hl =>
        ⟨hv .tracker (by decide), hv .tally (by decide), hv .grading (by decide), hv .line (by decide),
          hv .linePort (by decide), hl, (u.closeBoard_same c.serial).after hv (by decide) (by decide)⟩
      refine ⟨?_, fun before haw => ?_⟩
      · have ends := works_closedFor settles assembles
        refine ⟨same _ (ends.same.mono (by decide)) (ends.length.trans hlen), fun k e he => ?_, ends.calibrations⟩
        rw [after_eq]
        exact ends.heads k e he
      · obtain ⟨touches, length, heads, calibrations⟩ :=
          State.windowClose_of_assembling settles assembles hlen haw
        refine ⟨same _ touches length, fun k e he => ?_, calibrations⟩
        rw [after_eq]
        exact heads k e he
    · intro hring hmembers before haw v
      obtain ⟨m, hm, ends⟩ := State.windowClose_of_calibration haw hring
      obtain ⟨same, length, calibrations, heads⟩ := runWorks_closeCalibration settles hm
      rw [← ends] at same length calibrations heads
      refine ⟨?_, length.trans hlen, fun k e he => ?_⟩
      · have intake : v.intake = ⟨v.intake.heads, _⟩ := congrArg (Intake.mk _) calibrations
        exact same.eq_withIntake.trans (congrArg (fun i => { u.draw with intake := i }) intake)
      · have member : k + 1 ∈ (c.members.map fun m => m.head) ↔ { head := k + 1, outcome := none } ∈ c.members := by
          constructor
          · intro hk
            obtain ⟨⟨g, o⟩, hm, rfl⟩ := List.mem_map.1 hk
            obtain rfl : o = none := hmembers _ hm
            exact hm
          · intro hm
            exact List.mem_map.2 ⟨_, hm, rfl⟩
        have now := heads k
        rw [he, Option.map_some] at now
        exact now.trans (congrArg some (if_congr member rfl rfl))

end Sys2Proof.Machine
end

section
/-! SUPPORT. Additions to the counters of a run, one after another, with the notices they raise (R150, R153, R164). -/

namespace Sys2Proof.Machine

/-! ### Reports offered to the line port -/

/-- Frames offered to the line port one after another (R171). -/
def State.offerLine (s : State) (frames : List Frame) : State := { s with linePort := s.linePort.offers 32 8 frames }

theorem State.offerLine_nil (s : State) : s.offerLine [] = s := rfl

theorem State.offerLine_append (s : State) (fs gs : List Frame) : s.offerLine (fs ++ gs) = (s.offerLine fs).offerLine gs := by
  simp only [State.offerLine, PortState.offers, List.foldl_append]

theorem State.offer_line_eq {s : State} (h : s.line.resetting = false) (k : Byte) (body : List Byte) :
    s.offer .line k body = s.offerLine [{ kind := k, tag := 0#8, body := body }] := by
  simp only [State.offer, h]
  rfl

/-- R164: the NOTICE report of a notice, where the mask allows it. -/
def State.noticeFrames (s : State) (n : Notice) : List Frame :=
  if s.line.noticeMask.getLsbD (noticeCode n) = true then
    [{ kind := 0x48#8, tag := 0#8, body := byteOf (noticeCode n) :: noticeOperands n }]
  else []

theorem State.notice_eq {s : State} (h : s.line.resetting = false) (n : Notice) :
    s.notice n = s.offerLine (s.noticeFrames n) := by
  unfold State.notice State.noticeFrames
  split
  · exact State.offer_line_eq h _ _
  · rfl

/-- A report to the line port leaves the console port alone too. -/
theorem State.offer_line_same (s : State) (k : Byte) (body : List Byte) : s.sameExcept [.linePort] (s.offer .line k body) := by
  intro b hb
  unfold State.offer
  split
  · cases b <;> rfl
  · cases b <;> first | rfl | simp at hb

theorem State.notice_line_same (s : State) (n : Notice) : s.sameExcept [.linePort] (s.notice n) := by
  unfold State.notice
  split
  · exact s.offer_line_same _ _
  · exact .refl _ s

theorem State.count_line_same (s : State) (id k n : Nat) : s.sameExcept [.tally, .linePort] (s.count id k n) := by
  unfold State.count
  split
  · exact .refl _ s
  · dsimp only
    split
    · exact (s.setRuns_same _).after (State.notice_line_same _ _) (by decide) (by decide)
    · exact (s.setRuns_same _).mono (by decide)

theorem State.countAll_line_same (s : State) (id : Nat) (adds : List (Nat × Nat)) :
    s.sameExcept [.tally, .linePort] (s.countAll id adds) :=
  .foldl (fun u (a : Nat × Nat) => u.count_line_same id a.1 a.2) adds s

/-! ### A counter raised -/

theorem Counter.add_eq_raised (c : Counter) (top n : Nat) : c.add top n = c.raised top n := by
  unfold Counter.add Counter.raised
  split
  · rename_i h
    simp [Nat.not_le.2 h, Nat.le_of_lt h]
  · rename_i h
    simp [Nat.not_lt.1 h]

/-- The run with one counter raised. -/
def Run.raise (r : Run) (a : Nat × Nat) : Run :=
  { r with counters := r.counters.set a.1 ((r.counter a.1).raised (counterTop a.1) a.2) }

/-- The run with counters raised one after another. -/
def Run.raises (r : Run) (adds : List (Nat × Nat)) : Run := adds.foldl Run.raise r

theorem Run.raise_length (r : Run) (a : Nat × Nat) : (r.raise a).counters.length = r.counters.length := List.length_set

theorem Run.raises_length (r : Run) (adds : List (Nat × Nat)) : (r.raises adds).counters.length = r.counters.length := by
  induction adds generalizing r with
  | nil => rfl
  | cons a adds ih => exact (ih (r.raise a)).trans (r.raise_length a)

theorem Run.raise_counters_of_ne (r : Run) {a : Nat × Nat} {k : Nat} (h : a.1 ≠ k) :
    (r.raise a).counters[k]? = r.counters[k]? := List.getElem?_set_ne h

theorem Run.counter_raise_of_ne (r : Run) {a : Nat × Nat} {k : Nat} (h : a.1 ≠ k) :
    (r.raise a).counter k = r.counter k := by
  simp only [Run.counter, List.getD_eq_getElem?_getD, r.raise_counters_of_ne h]

theorem Run.raises_counters_of_ne (r : Run) {adds : List (Nat × Nat)} {k : Nat} (h : ∀ a ∈ adds, a.1 ≠ k) :
    (r.raises adds).counters[k]? = r.counters[k]? := by
  induction adds generalizing r with
  | nil => rfl
  | cons a adds ih =>
    rw [List.forall_mem_cons] at h
    exact (ih (r.raise a) h.2).trans (r.raise_counters_of_ne h.1)

theorem Run.raises_counters (r : Run) {adds : List (Nat × Nat)} (distinct : (adds.map Prod.fst).Nodup)
    (inside : ∀ a ∈ adds, a.1 < r.counters.length) :
    ∀ a ∈ adds, (r.raises adds).counters[a.1]? = some ((r.counter a.1).raised (counterTop a.1) a.2) := by
  induction adds generalizing r with
  | nil => simp
  | cons b adds ih =>
    obtain ⟨fresh, distinct⟩ := List.nodup_cons.1 distinct
    obtain ⟨hb, inside⟩ := List.forall_mem_cons.1 inside
    have apart : ∀ a ∈ adds, a.1 ≠ b.1 := fun a ha e => fresh (e ▸ List.mem_map_of_mem ha)
    refine List.forall_mem_cons.2 ⟨?_, fun a ha => ?_⟩
    · exact ((r.raise b).raises_counters_of_ne apart).trans (List.getElem?_set_self hb)
    · have later := ih (r.raise b) distinct (by simpa only [r.raise_length] using inside) a ha
      rwa [r.counter_raise_of_ne (apart a ha).symm] at later

/-! ### The counters of a run of the table -/

/-- The state with the counters of the run of an id set. -/
def State.setCounters (s : State) (id : Nat) (cs : List Counter) : State :=
  s.setRuns (s.tally.runs.map fun q => if q.id = id then { q with counters := cs } else q)

theorem State.setCounters_setCounters (s : State) (id : Nat) (cs ds : List Counter) :
    (s.setCounters id cs).setCounters id ds = s.setCounters id ds := by
  unfold State.setCounters
  simp only [State.setRuns, List.map_map]
  congr 3
  funext q
  simp only [Function.comp]
  split <;> simp_all

theorem State.findRun_setCounters {s : State} {id : Nat} {r : Run} (h : s.findRun id = some r) (cs : List Counter) :
    (s.setCounters id cs).findRun id = some { r with counters := cs } := by
  have keeps : ∀ q : Run, decide ((if q.id = id then { q with counters := cs } else q : Run).id = id) = decide (q.id = id) := by
    intro q
    split <;> rfl
  have hid : r.id = id := by simpa using List.find?_some h
  have found : s.tally.runs.find? (fun q => decide (q.id = id)) = some r := h
  change (s.tally.runs.map _).find? _ = _
  rw [List.find?_map]
  simp only [Function.comp_def, keeps, found, Option.map_some, if_pos hid]

theorem State.setCounters_ids (s : State) (id : Nat) (cs : List Counter) :
    ((s.setCounters id cs).tally.runs.map fun q => q.id) = s.tally.runs.map fun q => q.id := by
  change ((s.tally.runs.map _).map _) = _
  rw [List.map_map]
  refine List.map_congr_left fun q _ => ?_
  simp only [Function.comp]
  split <;> rfl

/-- With no id twice in the table, the run that an id finds is the only one of that id. -/
theorem State.eq_of_findRun {s : State} {id : Nat} {r q : Run} (unique : (s.tally.runs.map fun q => q.id).Nodup)
    (h : s.findRun id = some r) (hq : q ∈ s.tally.runs) (hid : q.id = id) : q = r := by
  have hr : r.id = id := by simpa using List.find?_some h
  exact List.inj_on_of_nodup_map unique hq (List.mem_of_find?_eq_some h) (hid.trans hr.symm)

/-- The run found has its counters already. -/
theorem State.setCounters_of_findRun {s : State} {id : Nat} {r : Run} (unique : (s.tally.runs.map fun q => q.id).Nodup)
    (h : s.findRun id = some r) : s.setCounters id r.counters = s := by
  have kept : (s.tally.runs.map fun q => if q.id = id then { q with counters := r.counters } else q) = s.tally.runs := by
    refine (List.map_congr_left fun q hq => ?_).trans (List.map_id _)
    split
    · rename_i hqid
      rw [State.eq_of_findRun unique h hq hqid]
      rfl
    · rfl
  exact congrArg s.setRuns kept

theorem State.noticeFrames_tallySaturated (s : State) (id k : Nat) :
    s.noticeFrames (.tallySaturated id k) =
      if s.line.noticeMask.getLsbD 6 = true then
        [{ kind := 0x48#8, tag := 0#8, body := [0x06#8] ++ le2 id ++ [byteOf k, 0xFF#8] }]
      else [] := rfl

/-- R153: the notice of one addition: the flag goes from clear to set. -/
theorem State.saturationNotices_one (s : State) (r : Run) (k n : Nat) :
    s.saturationNotices r [(k, n)] =
      if ((r.counter k).raised (counterTop k) n).saturated && !(r.counter k).saturated then
        s.noticeFrames (.tallySaturated r.id k) else [] := by
  have flags : (((r.counter k).raised (counterTop k) n).saturated && !(r.counter k).saturated) =
      (!(r.counter k).saturated && decide (counterTop k ≤ (r.counter k).value + n)) := by
    unfold Counter.raised
    cases (r.counter k).saturated <;> simp
  rw [flags, State.noticeFrames_tallySaturated]
  unfold State.saturationNotices
  rw [List.filter_singleton]
  by_cases mask : s.line.noticeMask.getLsbD 6 = true
  · simp only [if_pos mask]
    cases !(r.counter k).saturated && decide (counterTop k ≤ (r.counter k).value + n) <;> rfl
  · simp only [if_neg mask, ite_self]

/-- R153: one addition to a counter of a run of the table, with its notice. -/
theorem State.count_of_findRun {s : State} {id : Nat} {r : Run} (unique : (s.tally.runs.map fun q => q.id).Nodup)
    (h : s.findRun id = some r) (hs : s.line.resetting = false) (k n : Nat) :
    s.count id k n = (s.setCounters id (r.raise (k, n)).counters).offerLine (s.saturationNotices r [(k, n)]) := by
  have hid : r.id = id := by simpa using List.find?_some h
  have table : (s.tally.runs.map fun q =>
        if q.id = id then { q with counters := q.counters.set k ((r.counter k).raised (counterTop k) n) } else q) =
      s.tally.runs.map fun q => if q.id = id then { q with counters := (r.raise (k, n)).counters } else q := by
    refine List.map_congr_left fun q hq => ?_
    split
    · rename_i hqid
      rw [State.eq_of_findRun unique h hq hqid]
      rfl
    · rfl
  have counted : s.count id k n =
      if ((r.counter k).raised (counterTop k) n).saturated && !(r.counter k).saturated then
        (s.setCounters id (r.raise (k, n)).counters).notice (.tallySaturated id k)
      else s.setCounters id (r.raise (k, n)).counters := by
    unfold State.count
    rw [h]
    simp only [Counter.add_eq_raised, table]
    rfl
  rw [counted, s.saturationNotices_one r k n, hid]
  split
  · exact State.notice_eq (s := s.setCounters id (r.raise (k, n)).counters) hs _
  · rfl

/-- The notices of additions are those of the first and then those of the others, the first being to another counter. -/
theorem State.saturationNotices_cons (s : State) (r : Run) {a : Nat × Nat} {adds : List (Nat × Nat)}
    (apart : ∀ b ∈ adds, b.1 ≠ a.1) :
    s.saturationNotices r (a :: adds) = s.saturationNotices r [a] ++ s.saturationNotices (r.raise a) adds := by
  have later : (adds.filter fun b =>
        !((r.raise a).counter b.1).saturated && decide (counterTop b.1 ≤ ((r.raise a).counter b.1).value + b.2)) =
      adds.filter fun b => !(r.counter b.1).saturated && decide (counterTop b.1 ≤ (r.counter b.1).value + b.2) :=
    List.filter_congr fun b hb => by rw [r.counter_raise_of_ne (apart b hb).symm]
  unfold State.saturationNotices
  rw [later]
  split
  · exact (congrArg (List.map _) (List.filter_append [a] adds)).trans List.map_append
  · rfl

/-- R150, R153: additions to different counters of a run of the table, with their notices. -/
theorem State.countAll_of_findRun {s : State} {id : Nat} {r : Run} {adds : List (Nat × Nat)}
    (unique : (s.tally.runs.map fun q => q.id).Nodup) (h : s.findRun id = some r) (hs : s.line.resetting = false)
    (distinct : (adds.map Prod.fst).Nodup) :
    s.countAll id adds = (s.setCounters id (r.raises adds).counters).offerLine (s.saturationNotices r adds) := by
  induction adds generalizing s r with
  | nil =>
    refine (State.setCounters_of_findRun unique h).symm.trans ?_
    unfold State.saturationNotices
    rw [List.filter_nil, List.map_nil, ite_self]
    rfl
  | cons a adds ih =>
    obtain ⟨fresh, distinct⟩ := List.nodup_cons.1 distinct
    have apart : ∀ b ∈ adds, b.1 ≠ a.1 := fun b hb e => fresh (e ▸ List.mem_map_of_mem hb)
    have first := State.count_of_findRun unique h hs a.1 a.2
    have rest := ih (s := s.count id a.1 a.2) (r := r.raise a)
      (by rw [first]; exact (s.setCounters_ids id _).symm ▸ unique)
      (by rw [first]; exact State.findRun_setCounters h _) (by rw [first]; exact hs) distinct
    calc s.countAll id (a :: adds)
        = (s.count id a.1 a.2).countAll id adds := rfl
      _ = (((s.setCounters id (r.raise a).counters).setCounters id ((r.raise a).raises adds).counters).offerLine
            (s.saturationNotices r [a])).offerLine (s.saturationNotices (r.raise a) adds) := by rw [rest, first]; rfl
      _ = (s.setCounters id (r.raises (a :: adds)).counters).offerLine (s.saturationNotices r (a :: adds)) := by
        rw [State.setCounters_setCounters, s.saturationNotices_cons r apart, State.offerLine_append]
        rfl

/-- R150, R153: what additions to different counters of a run come to in the tally and on the line port. -/
theorem State.countAll_raisedIn {s : State} {id : Nat} {r : Run} {adds : List (Nat × Nat)}
    (unique : (s.tally.runs.map fun q => q.id).Nodup) (h : s.findRun id = some r) (hs : s.line.resetting = false)
    (distinct : (adds.map Prod.fst).Nodup) (inside : ∀ a ∈ adds, a.1 < r.counters.length) :
    s.raisedIn (s.countAll id adds) r adds ∧
      (s.countAll id adds).linePort = s.linePort.offers 32 8 (s.saturationNotices r adds) := by
  have hid : r.id = id := by simpa using List.find?_some h
  rw [State.countAll_of_findRun unique h hs distinct]
  refine ⟨⟨(r.raises adds).counters, ?_, r.raises_length adds, r.raises_counters distinct inside,
    fun k hk => r.raises_counters_of_ne hk⟩, rfl⟩
  rw [hid]
  rfl

end Sys2Proof.Machine
end

section
/-! SUPPORT. LOG_END (R42, R43, R47, R48): where debris and a log record are accounted, the memory of 8, and the reports. -/

namespace Sys2Proof.Machine

/-! ### Accounting against a booking (R39, R43, R48) -/

theorem State.countDebris_of_unbooked {s : State} {b : Option Booking} (h : s.bookedRun b = none) :
    s.countDebris b = s.mapFigures fun u => { u with debris := min 4294967295 (u.debris + 1) } := by
  unfold State.countDebris
  rw [h]
  rfl

theorem State.countDebris_of_booked {s : State} {b : Option Booking} {id : Nat} (h : s.bookedRun b = some id) :
    s.countDebris b = s.countAll id [(131, 1)] := by
  unfold State.countDebris
  rw [h]
  rfl

/-- R48: what a log record adds to the counters of a run. -/
def LogRecord.adds (r : LogRecord) : List (Nat × Nat) :=
  [(129, 1), (130, r.litres)] ++ if r.suspect = true then [(132, 1)] else []

theorem LogRecord.adds_distinct (r : LogRecord) : (r.adds.map Prod.fst).Nodup := by
  unfold LogRecord.adds
  cases r.suspect <;> simp

theorem LogRecord.adds_inside (r : LogRecord) : ∀ a ∈ r.adds, a.1 < 133 := by
  unfold LogRecord.adds
  cases r.suspect <;> simp

theorem State.accountLog_of_unbooked {s : State} {b : Option Booking} (h : s.bookedRun b = none) (r : LogRecord) :
    s.accountLog b r =
      s.mapFigures fun u =>
        { u with logs := min 4294967295 (u.logs + 1), litres := min 4294967295 (u.litres + r.litres) } := by
  unfold State.accountLog
  rw [h]
  rfl

theorem State.accountLog_of_booked {s : State} {b : Option Booking} {id : Nat} (h : s.bookedRun b = some id) (r : LogRecord) :
    s.accountLog b r = s.countAll id r.adds := by
  unfold State.accountLog
  rw [h]
  rfl

theorem State.countDebris_same (s : State) (b : Option Booking) : s.sameExcept [.tally, .linePort] (s.countDebris b) := by
  cases h : s.bookedRun b with
  | none =>
    rw [State.countDebris_of_unbooked h]
    exact (s.mapFigures_same _).mono (by decide)
  | some id =>
    rw [State.countDebris_of_booked h]
    exact s.countAll_line_same id _

theorem State.accountLog_same (s : State) (b : Option Booking) (r : LogRecord) :
    s.sameExcept [.tally, .linePort] (s.accountLog b r) := by
  cases h : s.bookedRun b with
  | none =>
    rw [State.accountLog_of_unbooked h]
    exact (s.mapFigures_same _).mono (by decide)
  | some id =>
    rw [State.accountLog_of_booked h]
    exact s.countAll_line_same id _

theorem State.setLogs_same (s : State) (l : LogScaler) : s.sameExcept [.logs] (s.setLogs l) := by
  intro b hb
  cases b <;> first | rfl | simp at hb

/-! ### The log record memory (R47) -/

theorem LogScaler.remember_getLast? (g : LogScaler) (r : LogRecord) : (g.remember r).memory.getLast? = some r := by
  have one : g.memory.length + 1 - Config.logMemoryPlaces ≤ g.memory.length := by simp [Config.logMemoryPlaces]
  simp only [LogScaler.remember, List.drop_append_of_le_length one, List.getLast?_concat]

theorem LogScaler.remember_of_place {g : LogScaler} (h : g.memory.length < 8) (r : LogRecord) :
    (g.remember r).memory = g.memory ++ [r] := by
  have none_dropped : g.memory.length + 1 - Config.logMemoryPlaces = 0 := by simp only [Config.logMemoryPlaces]; omega
  simp only [LogScaler.remember, none_dropped, List.drop_zero]

theorem LogScaler.remember_of_full {g : LogScaler} (h : g.memory.length = 8) (r : LogRecord) :
    (g.remember r).memory = g.memory.tail ++ [r] := by
  have one_dropped : g.memory.length + 1 - Config.logMemoryPlaces = 1 := by simp only [Config.logMemoryPlaces, h]
  simp only [LogScaler.remember, one_dropped]
  rw [List.drop_append_of_le_length (by omega), List.drop_one]

/-! ### The reports of a log record (R48) -/

/-- R48: LOG_SCALED with the whole record where it is selected, then LOG_SUSPECT where it applies and the mask allows. -/
def State.logReports (s : State) (r : LogRecord) : List Frame :=
  (if s.selection.getLsbD 2 = true then [{ kind := 0x43#8, tag := 0#8, body := r.fields }] else []) ++
    if r.suspect = true ∧ s.line.noticeMask.getLsbD 7 = true then
      [{ kind := 0x48#8, tag := 0#8, body := [0x07#8] ++ le4 r.sequence.toNat }]
    else []

theorem State.noticeFrames_logSuspect (s : State) (q : BitVec 32) :
    s.noticeFrames (.logSuspect q) =
      if s.line.noticeMask.getLsbD 7 = true then
        [{ kind := 0x48#8, tag := 0#8, body := [0x07#8] ++ le4 q.toNat }]
      else [] := rfl

/-- LOG_SCALED offered where it is selected. -/
theorem State.offerScaled_eq {s : State} (h : s.line.resetting = false) (r : LogRecord) :
    (if s.selection.getLsbD 2 then s.offer .line 0x43#8 (logRecordBytes r) else s) =
      s.offerLine (if s.selection.getLsbD 2 = true then [{ kind := 0x43#8, tag := 0#8, body := r.fields }] else []) := by
  split
  · rw [logRecordBytes_eq, State.offer_line_eq h]
  · rfl

/-- LOG_SUSPECT raised where it applies. -/
theorem State.noticeSuspect_eq {s : State} (h : s.line.resetting = false) (r : LogRecord) :
    (if r.suspect then s.notice (.logSuspect r.sequence) else s) =
      s.offerLine
        (if r.suspect = true ∧ s.line.noticeMask.getLsbD 7 = true then
          [{ kind := 0x48#8, tag := 0#8, body := [0x07#8] ++ le4 r.sequence.toNat }]
        else []) := by
  cases r.suspect with
  | false => rfl
  | true =>
    rw [if_pos rfl, State.notice_eq h, State.noticeFrames_logSuspect]
    simp only [true_and]

/-- R48: the reports of a log record offered. -/
def State.reportLog (s : State) (r : LogRecord) : State :=
  let scaled := if s.selection.getLsbD 2 then s.offer .line 0x43#8 (logRecordBytes r) else s
  if r.suspect then scaled.notice (.logSuspect r.sequence) else scaled

theorem State.reportLog_eq {s : State} (h : s.line.resetting = false) (r : LogRecord) :
    s.reportLog r = s.offerLine (s.logReports r) := by
  unfold State.reportLog
  rw [State.offerScaled_eq h, State.logReports, State.offerLine_append]
  exact State.noticeSuspect_eq (s := s.offerLine _) h r

/-- The state with a record remembered and accounted, before its reports. -/
def State.keepLog (s : State) (b : Option Booking) (r : LogRecord) : State :=
  (s.setLogs (s.logs.remember r)).accountLog b r

theorem State.keepLog_same (s : State) (b : Option Booking) (r : LogRecord) :
    s.sameExcept [.logs, .tally, .linePort] (s.keepLog b r) :=
  (s.setLogs_same _).after (State.accountLog_same _ b r) (by decide) (by decide)

theorem State.keepLog_logs (s : State) (b : Option Booking) (r : LogRecord) : (s.keepLog b r).logs = s.logs.remember r :=
  State.accountLog_same _ b r .logs (by decide)

/-- R48: a record handed on is kept, and then its reports are offered. -/
theorem State.handLog_eq {s : State} (h : s.line.resetting = false) (b : Option Booking) (r : LogRecord) :
    s.handLog b r = (s.keepLog b r).offerLine (s.logReports r) := by
  have same := s.keepLog_same b r
  have line : (s.keepLog b r).line = s.line := same .line (by decide)
  have selection : (s.keepLog b r).selection = s.selection := same .selection (by decide)
  have reports : (s.keepLog b r).logReports r = s.logReports r := by
    unfold State.logReports
    rw [line, selection]
  rw [← reports]
  exact State.reportLog_eq (line ▸ h) r

theorem State.offerLine_same (s : State) (frames : List Frame) : s.sameExcept [.linePort] (s.offerLine frames) := by
  intro b hb
  cases b <;> first | rfl | simp at hb

/-! ### LOG_END -/

theorem execLogEnd_next {s : State} (h : s.line.resetting = false) (serial : Tag) (ok : Bool) (body : List Byte) :
    exec (.logEnd serial ok body) s = .next (s.endLog !ok) := by
  change execLogEnd serial ok body s = _
  unfold execLogEnd
  rw [h]
  rfl

/-- The state whose log in progress has ended. -/
def State.closeLog (s : State) : State := s.setLogs { s.logs with current := none }

theorem State.endLog_of_idle {s : State} (h : s.logs.current = none) (suspect : Bool) : s.endLog suspect = s := by
  unfold State.endLog
  rw [h]

theorem State.endLog_of_debris {s : State} {l : LogInProgress} (h : s.logs.current = some l) (hz : scale l.samples = none)
    (suspect : Bool) : s.endLog suspect = s.closeLog.countDebris l.booking := by
  unfold State.endLog
  simp only [h, hz]
  rfl

/-- R47: the record of a log that ends, `suspect` when its LOG_END is corrupt. -/
def State.recordOf (s : State) (l : LogInProgress) (suspect : Bool) (z : Scaled) : LogRecord :=
  s.logRecord { l with suspect := l.suspect || suspect } z

theorem State.endLog_of_log {s : State} {l : LogInProgress} {z : Scaled} (h : s.logs.current = some l)
    (hz : scale l.samples = some z) (suspect : Bool) :
    s.endLog suspect = s.closeLog.handLog l.booking (s.recordOf l suspect z) := by
  unfold State.endLog
  simp only [h, hz]
  rfl

/-- R43: a LOG_END of debris. -/
theorem State.endLog_debris_spec {s : State} {l : LogInProgress} (h : s.line.resetting = false)
    (hl : s.logs.current = some l) (hz : scale l.samples = none) (suspect : Bool) :
    (s.endLog suspect).logs = { s.logs with current := none } ∧
      (s.bookedRun l.booking = none →
        (s.endLog suspect).tally =
            { s.tally with
              unattributed :=
                { s.tally.unattributed with debris := min 4294967295 (s.tally.unattributed.debris + 1) } } ∧
          (s.endLog suspect).linePort = s.linePort) ∧
      (∀ id r, s.bookedRun l.booking = some id → (s.tally.runs.map fun q => q.id).Nodup → s.findRun id = some r →
        r.counters.length = 133 →
        s.raisedIn (s.endLog suspect) r [(131, 1)] ∧
          (s.endLog suspect).linePort = s.linePort.offers 32 8 (s.saturationNotices r [(131, 1)])) := by
  rw [State.endLog_of_debris hl hz]
  refine ⟨State.countDebris_same _ _ .logs (by decide), fun unbooked => ?_, fun id r booked unique found places => ?_⟩
  · rw [State.countDebris_of_unbooked (s := s.closeLog) unbooked]
    exact ⟨rfl, rfl⟩
  · rw [State.countDebris_of_booked (s := s.closeLog) booked]
    exact State.countAll_raisedIn (s := s.closeLog) unique found h (by simp) (by simp [places])

/-- R47, R48: a LOG_END of a log that is scaled to a record `r`. -/
theorem State.handLog_spec {s : State} (h : s.line.resetting = false) (b : Option Booking) (r : LogRecord) :
    (s.handLog b r).logs = s.logs.remember r ∧
      (s.bookedRun b = none →
        (s.handLog b r).tally.runs = s.tally.runs ∧
          (s.handLog b r).tally.unattributed =
            { s.tally.unattributed with
              logs := min 4294967295 (s.tally.unattributed.logs + 1)
              litres := min 4294967295 (s.tally.unattributed.litres + r.litres) } ∧
          (s.handLog b r).linePort = s.linePort.offers 32 8 (s.logReports r)) ∧
      (∀ id q, s.bookedRun b = some id → (s.tally.runs.map fun q => q.id).Nodup → s.findRun id = some q →
        q.counters.length = 133 →
        s.raisedIn (s.handLog b r) q r.adds ∧
          (s.handLog b r).linePort = s.linePort.offers 32 8 (s.saturationNotices q r.adds ++ s.logReports r)) := by
  rw [State.handLog_eq h]
  refine ⟨s.keepLog_logs b r, fun unbooked => ?_, fun id q booked unique found places => ?_⟩
  · rw [State.keepLog, State.accountLog_of_unbooked (s := s.setLogs (s.logs.remember r)) unbooked]
    exact ⟨rfl, rfl, rfl⟩
  · obtain ⟨raised, port⟩ := State.countAll_raisedIn (s := s.setLogs (s.logs.remember r)) unique found h r.adds_distinct
      (places ▸ r.adds_inside)
    rw [State.keepLog, State.accountLog_of_booked (s := s.setLogs (s.logs.remember r)) booked]
    refine ⟨raised, ?_⟩
    change PortState.offers (State.countAll _ id r.adds).linePort 32 8 (s.logReports r) = _
    rw [port, PortState.offers, PortState.offers, PortState.offers, List.foldl_append]
    rfl

theorem State.endLog_same {s : State} (h : s.line.resetting = false) (suspect : Bool) :
    s.sameExcept [.logs, .tally, .linePort] (s.endLog suspect) := by
  cases hl : s.logs.current with
  | none =>
    rw [State.endLog_of_idle hl]
    exact .refl _ s
  | some l =>
    have closed : s.sameExcept [.logs] s.closeLog := s.setLogs_same _
    cases hz : scale l.samples with
    | none =>
      rw [State.endLog_of_debris hl hz]
      exact closed.after (State.countDebris_same _ _) (by decide) (by decide)
    | some z =>
      rw [State.endLog_of_log hl hz, State.handLog_eq (s := s.closeLog) h]
      exact closed.after
        ((State.keepLog_same _ _ _).trans ((State.offerLine_same _ _).mono (by decide))) (by decide) (by decide)

/-- Settles O14: what LOG_END does to debris and to a log record, its counts and its reports, the memory of 8. -/
theorem logEndScalesTheLog : Obligations.LogEndScalesTheLog := by
  intro s serial ok body h
  rw [execLogEnd_next h]
  refine ⟨fun idle => by rw [State.endLog_of_idle idle], fun l hl => ⟨s.endLog !ok, rfl, State.endLog_same h _, ?_, fun hz => ?_, fun z hz => ?_⟩⟩
  · cases hz : scale l.samples with
    | none => rw [(State.endLog_debris_spec h hl hz _).1]
    | some z =>
      rw [State.endLog_of_log hl hz, (State.handLog_spec (s := s.closeLog) h _ _).1]
      rfl
  · obtain ⟨logs, unbooked, booked⟩ := State.endLog_debris_spec h hl hz !ok
    rw [logs]
    exact ⟨rfl, rfl, unbooked, booked⟩
  · obtain ⟨logs, unbooked, booked⟩ := State.handLog_spec (s := s.closeLog) h l.booking (s.recordOf l (!ok) z)
    rw [State.endLog_of_log hl hz]
    intro suspect reports
    have offered : s.closeLog.logReports (s.recordOf l (!ok) z) = reports := by
      obtain ⟨booking, samples, overlength, before⟩ := l
      cases booking <;> rfl
    rw [offered] at unbooked booked
    rw [logs]
    refine ⟨rfl, LogScaler.remember_getLast? _ _, fun place => ?_, fun full => ?_, unbooked, booked⟩
    · rw [LogScaler.remember_of_place (g := s.closeLog.logs) place]
      exact ⟨List.prefix_append _ _, List.length_append⟩
    · rw [LogScaler.remember_of_full (g := s.closeLog.logs) full]
      exact ⟨by simp [State.closeLog, full], List.prefix_append _ _⟩

end Sys2Proof.Machine
end

section
/-! SUPPORT. The figures of a log (R43 to R46): the span of its samples, the held values, the runs of held samples, and the
bounds of the figures. -/

namespace Sys2Proof.Machine

/-! ### The span (R43) -/

theorem dropWhile_zero_of_head {l : List Nat} (h : l.head? ≠ some 0) : l.dropWhile (fun d => d == 0) = l := by
  cases l with
  | nil => rfl
  | cons d ds => exact List.dropWhile_cons_of_neg (by simpa using h)

theorem dropWhile_zero_replicate_append (n : Nat) (l : List Nat) :
    (List.replicate n 0 ++ l).dropWhile (fun d => d == 0) = l.dropWhile (fun d => d == 0) :=
  List.dropWhile_append_of_pos fun _ hd => beq_iff_eq.2 (List.eq_of_mem_replicate hd)

/-- R43: zeros before a span and after it are not of the span. -/
theorem spanOf_zeros_span_zeros {span : List Nat} (a b : Nat) (first : span.head? ≠ some 0) (last : span.getLast? ≠ some 0) :
    spanOf (List.replicate a 0 ++ span ++ List.replicate b 0) = span := by
  have front : (span ++ List.replicate b 0).dropWhile (fun d => d == 0) =
      if span = [] then [] else span ++ List.replicate b 0 := by
    cases span with
    | nil => simp
    | cons d ds => exact dropWhile_zero_of_head first
  unfold spanOf
  rw [List.append_assoc, dropWhile_zero_replicate_append, front]
  split
  · rename_i empty
    rw [empty]
    rfl
  · rw [List.reverse_append, List.reverse_replicate, dropWhile_zero_replicate_append,
      dropWhile_zero_of_head (by rwa [List.head?_reverse]), List.reverse_reverse]

/-! ### The held values (R44) -/

theorem holdValues_length (prev : Nat) (l : List Nat) : (holdValues prev l).length = l.length := by
  induction l generalizing prev with
  | nil => rfl
  | cons d ds ih =>
    unfold holdValues
    split <;> simp [ih]

/-- A held value is a value of the list or the one before it. -/
theorem mem_of_mem_holdValues {prev x : Nat} {l : List Nat} (h : x ∈ holdValues prev l) : x ∈ prev :: l := by
  induction l generalizing prev with
  | nil => exact absurd h List.not_mem_nil
  | cons d ds ih =>
    unfold holdValues at h
    split at h
    · rcases List.mem_cons.1 h with rfl | h
      · exact List.mem_cons_self
      · have := ih h
        simp only [List.mem_cons] at this ⊢
        tauto
    · rcases List.mem_cons.1 h with rfl | h
      · exact List.mem_cons_of_mem _ List.mem_cons_self
      · exact List.mem_cons_of_mem _ (ih h)

/-- R44: values of which each is its sample, or at a zero the value before it, are the held values. -/
theorem eq_holdValues {prev : Nat} {l held : List Nat} (length : held.length = l.length)
    (each : ∀ k < l.length, held.getD k 0 = if l.getD k 0 = 0 then (prev :: held).getD k 0 else l.getD k 0) :
    held = holdValues prev l := by
  induction l generalizing prev held with
  | nil => exact List.length_eq_zero_iff.1 length
  | cons d ds ih =>
    obtain ⟨e, es, rfl⟩ := List.exists_cons_of_length_eq_add_one length
    have head : e = if d = 0 then prev else d := each 0 (Nat.zero_lt_succ _)
    have tail : es = holdValues e ds := ih (Nat.succ.inj length) fun k hk => each (k + 1) (Nat.succ_lt_succ hk)
    unfold holdValues
    rw [tail, head]
    split <;> rfl

/-- R44: the held values of a span that begins with a sample above 0. -/
theorem eq_holdValues_of_head {span held : List Nat} (first : span.head? ≠ some 0) (length : held.length = span.length)
    (each : ∀ k < span.length, held.getD k 0 = if span.getD k 0 = 0 then held.getD (k - 1) 0 else span.getD k 0) :
    held = holdValues 0 span := by
  refine eq_holdValues length fun k hk => ?_
  rw [each k hk]
  cases k with
  | zero =>
    have positive : span.getD 0 0 ≠ 0 := by
      intro zero
      rw [List.getD_eq_getElem _ _ hk] at zero
      exact first (by rw [List.head?_eq_getElem?, List.getElem?_eq_getElem hk, zero])
    rw [if_neg positive, if_neg positive]
  | succ k => rfl

/-! ### Runs of held samples (R44) -/

/-- Zeros before a sample above 0 are not enough for a longer run of zeros. -/
theorem not_prefix_of_pos {m n d : Nat} (hd : d ≠ 0) (h : m < n) (ds : List Nat) :
    ¬ List.replicate n 0 <+: List.replicate m 0 ++ d :: ds := by
  induction m generalizing n with
  | zero =>
    obtain ⟨n, rfl⟩ := Nat.exists_eq_add_of_lt h
    exact fun p => hd (List.cons_prefix_cons.1 (by simpa [List.replicate_succ] using p)).1.symm
  | succ m ih =>
    obtain ⟨n, rfl⟩ : ∃ k, n = k + 1 := ⟨n - 1, by omega⟩
    exact fun p => ih (Nat.lt_of_succ_lt_succ h) (List.cons_prefix_cons.1 p).2

/-- A run of zeros longer than the `m` before a sample above 0 lies after that sample. -/
theorem replicate_infix_past_pos {m n d : Nat} (hd : d ≠ 0) (h : m < n) (ds : List Nat) :
    List.replicate n 0 <:+: List.replicate m 0 ++ d :: ds ↔ List.replicate n 0 <:+: ds := by
  induction m with
  | zero => exact List.infix_cons_iff.trans (or_iff_right (not_prefix_of_pos hd h ds))
  | succ m ih =>
    exact List.infix_cons_iff.trans ((or_iff_right (not_prefix_of_pos hd h ds)).trans (ih (Nat.lt_of_succ_lt h)))

/-- R44: with `run` held samples going before, four of them stand on end exactly when `longHold` says so. -/
theorem longHold_iff_infix {run : Nat} (h : run ≤ 3) (l : List Nat) :
    longHold run l = true ↔ List.replicate 4 0 <:+: List.replicate run 0 ++ l := by
  induction l generalizing run with
  | nil =>
    have short : ¬ List.replicate 4 0 <:+: List.replicate run 0 ++ ([] : List Nat) := fun p => by
      have := p.length_le
      simp at this
      omega
    exact iff_of_false Bool.false_ne_true short
  | cons d ds ih =>
    unfold longHold
    split
    · rename_i hd
      have grown : List.replicate run 0 ++ d :: ds = List.replicate (run + 1) 0 ++ ds := by
        rw [hd, List.replicate_succ', List.append_assoc]
        rfl
      rw [grown, Bool.or_eq_true, decide_eq_true_iff]
      rcases Nat.lt_or_eq_of_le h with below | rfl
      · rw [ih below]
        exact or_iff_right (by omega)
      · exact iff_of_true (.inl (by decide)) (List.prefix_append _ _).isInfix
    · rename_i hd
      rw [ih (Nat.zero_le 3), replicate_infix_past_pos hd (Nat.lt_succ_of_le h)]
      rfl

/-- R44: four held samples on end, place by place. -/
theorem longHold_iff (span : List Nat) :
    longHold 0 span = true ↔ ∃ k, k + 4 ≤ span.length ∧ ∀ j < 4, span.getD (k + j) 0 = 0 := by
  rw [longHold_iff_infix (Nat.zero_le 3), List.replicate_zero, List.nil_append, List.infix_iff_getElem?]
  refine exists_congr fun k => ?_
  simp only [List.length_replicate, Nat.add_comm 4 k]
  refine and_congr_right fun fits => forall₂_congr fun j hj => ?_
  have inside : k + j < span.length := by omega
  rw [Nat.add_comm j k, List.getElem_replicate, List.getElem?_eq_getElem inside, List.getD_eq_getElem _ _ inside,
    Option.some_inj]

/-! ### The diameters (R45) -/

/-- R45: SED is the least sample that is not held. -/
theorem sed_spec {span : List Nat} {top : Nat} (bounded : ∀ d ∈ span, d ≤ top) (some_pos : ∃ d ∈ span, d ≠ 0) :
    let sed := (span.filter fun d => d != 0).foldl min top
    sed ∈ span ∧ sed ≠ 0 ∧ ∀ d ∈ span, d ≠ 0 → sed ≤ d := by
  intro sed
  obtain ⟨mem, least⟩ := List.min?_eq_some_iff.1 (List.min?_cons' (x := top) (xs := span.filter fun d => d != 0))
  have least : ∀ d ∈ span, d ≠ 0 → sed ≤ d := fun d hd pos =>
    least d (List.mem_cons_of_mem _ (List.mem_filter.2 ⟨hd, bne_iff_ne.2 pos⟩))
  have found : sed ∈ span.filter fun d => d != 0 := by
    rcases List.mem_cons.1 mem with top_eq | mem
    · obtain ⟨d, hd, pos⟩ := some_pos
      have equal : sed = d := Nat.le_antisymm (least d hd pos) ((bounded d hd).trans_eq top_eq.symm)
      exact equal ▸ List.mem_filter.2 ⟨hd, bne_iff_ne.2 pos⟩
    · exact mem
  obtain ⟨hs, pos⟩ := List.mem_filter.1 found
  exact ⟨hs, bne_iff_ne.1 pos, least⟩

/-- R45: LED is the greatest sample. -/
theorem led_spec {span : List Nat} (some_pos : ∃ d ∈ span, d ≠ 0) :
    let led := span.foldl max 0
    led ∈ span ∧ ∀ d ∈ span, d ≤ led := by
  intro led
  obtain ⟨mem, greatest⟩ := List.max?_eq_some_iff.1 (List.max?_cons' (x := 0) (xs := span))
  have greatest : ∀ d ∈ span, d ≤ led := fun d hd => greatest d (List.mem_cons_of_mem _ hd)
  refine ⟨?_, greatest⟩
  rcases List.mem_cons.1 mem with zero | mem
  · obtain ⟨d, hd, pos⟩ := some_pos
    exact absurd (Nat.le_zero.1 (zero ▸ greatest d hd)) pos
  · exact mem

/-! ### The litres (R46) -/

/-- R46: squares of at most 120 diameters of at most 1500. -/
theorem sum_squares_le {held : List Nat} (count : held.length ≤ 120) (bounded : ∀ d ∈ held, d ≤ 1500) :
    (held.map fun d => d * d).sum ≤ 270000000 := by
  have each : ∀ x ∈ held.map fun d => d * d, x ≤ 2250000 := by
    simp only [List.forall_mem_map]
    exact fun d hd => Nat.mul_le_mul (bounded d hd) (bounded d hd)
  have total := List.sum_le_card_nsmul _ _ each
  rw [List.length_map, smul_eq_mul] at total
  omega

/-! ### A log scaled -/

theorem scale_of_short {samples : List Nat} (h : (spanOf (samples.map clampDiameter)).length < 5) : scale samples = none :=
  if_pos h

theorem scale_of_long {samples : List Nat} (h : 5 ≤ (spanOf (samples.map clampDiameter)).length) :
    scale samples =
      some
        { length := 100 * (spanOf (samples.map clampDiameter)).length
          sed := ((spanOf (samples.map clampDiameter)).filter fun d => d != 0).foldl min 1500
          led := (spanOf (samples.map clampDiameter)).foldl max 0
          litres := litresOf ((holdValues 0 (spanOf (samples.map clampDiameter))).map fun d => d * d).sum
          suspect := samples.any (fun d => decide (1500 < d)) || longHold 0 (spanOf (samples.map clampDiameter)) } :=
  if_neg (Nat.not_lt.2 h)

/-- Settles O15: the samples' span is the given one and its held values are the given ones; each figure is then that of its
rule. -/
theorem logFiguresOfASpan : Obligations.LogFiguresOfASpan := by
  intro samples span held a b clamped first last length each
  have span_eq : spanOf (samples.map clampDiameter) = span :=
    (congrArg spanOf clamped).trans (spanOf_zeros_span_zeros a b first last)
  obtain rfl : held = holdValues 0 span := eq_holdValues_of_head first length each
  have bounded : ∀ d ∈ span, d ≤ 1500 := fun d hd => by
    have hd : d ∈ samples.map fun d => min 1500 d := by
      rw [clamped]
      simp [hd]
    obtain ⟨x, -, rfl⟩ := List.mem_map.1 hd
    exact Nat.min_le_left _ _
  have count : span.length ≤ samples.length := by
    have := congrArg List.length clamped
    simp only [List.length_map, List.length_append] at this
    omega
  refine ⟨fun short => scale_of_short (span_eq ▸ short), fun long => ⟨_, scale_of_long (span_eq ▸ long), ?_⟩⟩
  simp only [span_eq]
  have some_pos : ∃ d ∈ span, d ≠ 0 := by
    obtain ⟨d, ds, rfl⟩ := List.exists_cons_of_length_pos (Nat.lt_of_lt_of_le (by decide) long)
    exact ⟨d, List.mem_cons_self, fun zero => first (congrArg some zero)⟩
  obtain ⟨sed_mem, sed_pos, sed_least⟩ := sed_spec bounded some_pos
  obtain ⟨led_mem, led_greatest⟩ := led_spec some_pos
  have led_pos : 1 ≤ span.foldl max 0 := Nat.le_trans (Nat.pos_of_ne_zero sed_pos) (led_greatest _ sed_mem)
  refine ⟨trivial, fun few => by omega, sed_mem, sed_pos, sed_least, led_mem, led_greatest, Nat.pos_of_ne_zero sed_pos,
    bounded _ sed_mem, led_pos, bounded _ led_mem, rfl, ?_, fun few => ?_⟩
  · rw [Bool.or_eq_true, longHold_iff, List.any_eq_true]
    simp only [decide_eq_true_iff]
  · have squares := sum_squares_le (held := holdValues 0 span) (holdValues_length 0 span ▸ count.trans few)
      fun d hd => (List.mem_cons.1 (mem_of_mem_holdValues hd)).elim (fun zero => zero ▸ Nat.zero_le _) (bounded d)
    unfold litresOf
    omega

end Sys2Proof.Machine
end


section
/-! SUPPORT. The load window (R60, R61): the cursor's move, its sweep of the rectangle, and one value put at the cursor. -/

namespace Sys2Proof.Machine

/-! ### The cursor's move (R60) -/

/-- A move changes nothing of a window but its cursor and its exhausted flag. -/
theorem LoadWindow.advance_frame (w : LoadWindow) :
    w.advance.bank = w.bank ∧ w.advance.table = w.table ∧ w.advance.firstRow = w.firstRow ∧
      w.advance.lastRow = w.lastRow ∧ w.advance.firstCol = w.firstCol ∧ w.advance.lastCol = w.lastCol ∧
      w.advance.order = w.order ∧ w.advance.overflow = w.overflow := by
  unfold LoadWindow.advance
  split
  · split <;> simp
  · split <;> split <;> simp

section
variable {w : LoadWindow}

theorem LoadWindow.advance_within_row (order : w.order = .rows) (col : w.col < w.lastCol) :
    w.advance = { w with col := w.col + 1 } := by
  have more : ¬(w.row = w.lastRow ∧ w.col = w.lastCol) := fun last => Nat.ne_of_lt col last.2
  simp only [LoadWindow.advance, if_neg more, order, if_pos col]

theorem LoadWindow.advance_to_next_row (order : w.order = .rows) (col : w.col = w.lastCol) (row : w.row < w.lastRow) :
    w.advance = { w with row := w.row + 1, col := w.firstCol } := by
  have more : ¬(w.row = w.lastRow ∧ w.col = w.lastCol) := fun last => Nat.ne_of_lt row last.1
  simp only [LoadWindow.advance, if_neg more, order, if_neg (Nat.not_lt.2 col.ge)]

theorem LoadWindow.advance_within_column (order : w.order = .columns) (row : w.row < w.lastRow) :
    w.advance = { w with row := w.row + 1 } := by
  have more : ¬(w.row = w.lastRow ∧ w.col = w.lastCol) := fun last => Nat.ne_of_lt row last.1
  simp only [LoadWindow.advance, if_neg more, order, if_pos row]

theorem LoadWindow.advance_to_next_column (order : w.order = .columns) (row : w.row = w.lastRow)
    (col : w.col < w.lastCol) : w.advance = { w with row := w.firstRow, col := w.col + 1 } := by
  have more : ¬(w.row = w.lastRow ∧ w.col = w.lastCol) := fun last => Nat.ne_of_lt col last.2
  simp only [LoadWindow.advance, if_neg more, order, if_neg (Nat.not_lt.2 row.ge)]

theorem LoadWindow.advance_last_ignore (row : w.row = w.lastRow) (col : w.col = w.lastCol)
    (overflow : w.overflow = .ignore) : w.advance = { w with exhausted := true } := by
  simp only [LoadWindow.advance, if_pos (And.intro row col), overflow]

theorem LoadWindow.advance_last_wrap (row : w.row = w.lastRow) (col : w.col = w.lastCol)
    (overflow : w.overflow = .wrap) : w.advance = { w with row := w.firstRow, col := w.firstCol } := by
  simp only [LoadWindow.advance, if_pos (And.intro row col), overflow]

/-! ### The sweep (R60) -/

/-- A window with its cursor at a cell. -/
def LoadWindow.moveTo (w : LoadWindow) (row col : Nat) : LoadWindow := { w with row := row, col := col }

@[simp] theorem LoadWindow.moveTo_row (w : LoadWindow) (row col : Nat) : (w.moveTo row col).row = row := rfl
@[simp] theorem LoadWindow.moveTo_col (w : LoadWindow) (row col : Nat) : (w.moveTo row col).col = col := rfl

/-- The number of rows of a window's rectangle. -/
def LoadWindow.rowCount (w : LoadWindow) : Nat := w.lastRow + 1 - w.firstRow

/-- The number of columns of a window's rectangle. -/
def LoadWindow.colCount (w : LoadWindow) : Nat := w.lastCol + 1 - w.firstCol

theorem LoadWindow.rowCount_eq (h : w.firstRow ≤ w.lastRow) : w.rowCount = w.lastRow - w.firstRow + 1 := Nat.succ_sub h

theorem LoadWindow.colCount_eq (h : w.firstCol ≤ w.lastCol) : w.colCount = w.lastCol - w.firstCol + 1 := Nat.succ_sub h

/-- The place of a cell in a window's order, from 0: the cells of the rows, or columns, before it, and those before it in its
own. -/
def LoadWindow.rank (w : LoadWindow) (row col : Nat) : Nat :=
  match w.order with
  | .rows => (row - w.firstRow) * w.colCount + (col - w.firstCol)
  | .columns => (col - w.firstCol) * w.rowCount + (row - w.firstRow)

theorem LoadWindow.rank_of_rows (order : w.order = .rows) (row col : Nat) :
    w.rank row col = (row - w.firstRow) * w.colCount + (col - w.firstCol) := by
  simp only [LoadWindow.rank, order]

theorem LoadWindow.rank_of_columns (order : w.order = .columns) (row col : Nat) :
    w.rank row col = (col - w.firstCol) * w.rowCount + (row - w.firstRow) := by
  simp only [LoadWindow.rank, order]

/-- In a rectangle of `outer` lines of `inner` cells, the places are below the number of cells. -/
theorem LoadWindow.place_lt {outer inner a b : Nat} (ha : a < outer) (hb : b < inner) : a * inner + b < outer * inner :=
  calc a * inner + b < a * inner + inner := Nat.add_lt_add_left hb _
    _ = (a + 1) * inner := (Nat.succ_mul a inner).symm
    _ ≤ outer * inner := Nat.mul_le_mul_right inner ha

/-- A place names one line and one cell of it. -/
theorem LoadWindow.place_inj {inner a b a' b' : Nat} (hb : b < inner) (hb' : b' < inner) (h : a * inner + b = a' * inner + b') :
    a = a' ∧ b = b' := by
  have pos : 0 < inner := Nat.zero_lt_of_lt hb
  obtain ⟨line, cell⟩ := (Nat.div_mod_unique pos (a := a * inner + b)).2 ⟨by rw [Nat.mul_comm, Nat.add_comm], hb⟩
  obtain ⟨line', cell'⟩ := (Nat.div_mod_unique pos (a := a' * inner + b')).2 ⟨by rw [Nat.mul_comm, Nat.add_comm], hb'⟩
  exact ⟨line.symm.trans (h ▸ line'), cell.symm.trans (h ▸ cell')⟩

theorem LoadWindow.offsets_lt_of_covers {row col : Nat} (h : w.covers row col) :
    row - w.firstRow < w.rowCount ∧ col - w.firstCol < w.colCount := by
  unfold LoadWindow.covers at h
  unfold LoadWindow.rowCount LoadWindow.colCount
  omega

theorem LoadWindow.rank_lt {row col : Nat} (h : w.covers row col) : w.rank row col < w.rowCount * w.colCount := by
  obtain ⟨hrow, hcol⟩ := offsets_lt_of_covers h
  cases order : w.order with
  | rows => exact rank_of_rows order row col ▸ place_lt hrow hcol
  | columns => exact rank_of_columns order row col ▸ Nat.mul_comm w.colCount _ ▸ place_lt hcol hrow

theorem LoadWindow.rank_inj {row col row' col' : Nat} (h : w.covers row col) (h' : w.covers row' col')
    (same : w.rank row col = w.rank row' col') : row = row' ∧ col = col' := by
  obtain ⟨hrow, hcol⟩ := offsets_lt_of_covers h
  obtain ⟨hrow', hcol'⟩ := offsets_lt_of_covers h'
  have offsets : row - w.firstRow = row' - w.firstRow ∧ col - w.firstCol = col' - w.firstCol := by
    cases order : w.order with
    | rows =>
      simp only [rank_of_rows order] at same
      exact place_inj hcol hcol' same
    | columns =>
      simp only [rank_of_columns order] at same
      exact (place_inj hrow hrow' same).symm
  unfold LoadWindow.covers at h h'
  omega

theorem LoadWindow.rank_first : w.rank w.firstRow w.firstCol = 0 := by
  unfold LoadWindow.rank
  split <;> simp

/-- The last cell is (last row, last col) in either order. -/
theorem LoadWindow.rank_last (h : w.covers w.lastRow w.lastCol) :
    w.rank w.lastRow w.lastCol + 1 = w.rowCount * w.colCount := by
  obtain ⟨rows, -, cols, -⟩ := h
  have hrow := rowCount_eq rows
  have hcol := colCount_eq cols
  cases order : w.order with
  | rows => rw [rank_of_rows order, hrow, Nat.succ_mul, hcol, Nat.add_assoc]
  | columns => rw [rank_of_columns order, Nat.mul_comm w.rowCount, hcol, Nat.succ_mul, hrow, Nat.add_assoc]

theorem LoadWindow.covers_first {row col : Nat} (h : w.covers row col) : w.covers w.firstRow w.firstCol := by
  unfold LoadWindow.covers at *
  omega

theorem LoadWindow.covers_last {row col : Nat} (h : w.covers row col) : w.covers w.lastRow w.lastCol := by
  unfold LoadWindow.covers at *
  omega

/-- Before the last cell, a move takes the cursor to the next cell of the rectangle in the window's order. -/
theorem LoadWindow.advance_to_next (h : w.covers w.row w.col) (more : ¬(w.row = w.lastRow ∧ w.col = w.lastCol)) :
    ∃ row col, w.advance = w.moveTo row col ∧ w.covers row col ∧
      w.rank row col = w.rank w.row w.col + 1 := by
  obtain ⟨row_ge, row_le, col_ge, col_le⟩ := h
  cases order : w.order with
  | rows =>
    simp only [rank_of_rows order]
    obtain col | col := Nat.lt_or_eq_of_le col_le
    · refine ⟨_, _, advance_within_row order col, ⟨row_ge, row_le, Nat.le_succ_of_le col_ge, col⟩, ?_⟩
      rw [Nat.succ_sub col_ge, Nat.add_succ]
    · have row : w.row < w.lastRow := Nat.lt_of_le_of_ne row_le fun row => more ⟨row, col⟩
      refine ⟨_, _, advance_to_next_row order col row,
        ⟨Nat.le_succ_of_le row_ge, row, Nat.le_refl _, col ▸ col_ge⟩, ?_⟩
      rw [Nat.succ_sub row_ge, Nat.succ_mul, Nat.sub_self, Nat.add_zero, Nat.add_assoc, col, ← colCount_eq (col ▸ col_ge)]
  | columns =>
    simp only [rank_of_columns order]
    obtain row | row := Nat.lt_or_eq_of_le row_le
    · refine ⟨_, _, advance_within_column order row, ⟨Nat.le_succ_of_le row_ge, row, col_ge, col_le⟩, ?_⟩
      rw [Nat.succ_sub row_ge, Nat.add_succ]
    · have col : w.col < w.lastCol := Nat.lt_of_le_of_ne col_le fun col => more ⟨row, col⟩
      refine ⟨_, _, advance_to_next_column order row col,
        ⟨Nat.le_refl _, row ▸ row_ge, Nat.le_succ_of_le col_ge, col⟩, ?_⟩
      rw [Nat.succ_sub col_ge, Nat.succ_mul, Nat.sub_self, Nat.add_zero, Nat.add_assoc, row, ← rowCount_eq (row ▸ row_ge)]

/-- The cursor stays in the rectangle. -/
theorem LoadWindow.covers_advance (h : w.covers w.row w.col) : w.covers w.advance.row w.advance.col := by
  by_cases last : w.row = w.lastRow ∧ w.col = w.lastCol
  · obtain ⟨row, col⟩ := last
    cases overflow : w.overflow with
    | ignore =>
      rw [advance_last_ignore row col overflow]
      exact h
    | wrap =>
      rw [advance_last_wrap row col overflow]
      exact covers_first h
  · obtain ⟨row, col, moved, inside, -⟩ := advance_to_next h last
    rw [moved]
    exact inside

/-- From the first cell, the cursor stands after `k` moves at the cell of place `k`. -/
theorem LoadWindow.iterate_advance (h : w.covers w.row w.col) (row : w.row = w.firstRow) (col : w.col = w.firstCol) {k : Nat}
    (hk : k < w.rowCount * w.colCount) :
    w.covers (LoadWindow.advance^[k] w).row (LoadWindow.advance^[k] w).col ∧
      w.rank (LoadWindow.advance^[k] w).row (LoadWindow.advance^[k] w).col = k := by
  suffices ∃ r c, LoadWindow.advance^[k] w = w.moveTo r c ∧ w.covers r c ∧ w.rank r c = k by
    obtain ⟨r, c, moved, inside, place⟩ := this
    rw [moved]
    exact ⟨inside, place⟩
  induction k with
  | zero => exact ⟨w.row, w.col, rfl, h, by rw [row, col, rank_first]⟩
  | succ k ih =>
    obtain ⟨r, c, moved, inside, place⟩ := ih (Nat.lt_of_succ_lt hk)
    have more : ¬(r = w.lastRow ∧ c = w.lastCol) := by
      rintro ⟨rfl, rfl⟩
      have := rank_last inside
      omega
    obtain ⟨r', c', moved', inside', place'⟩ := advance_to_next (w := w.moveTo r c) inside more
    rw [Function.iterate_succ_apply', moved]
    exact ⟨r', c', moved', inside', place'.trans (congrArg (· + 1) place)⟩

/-- The cells of the first `rowCount * colCount` places are different cells. -/
theorem LoadWindow.sweep_nodup (h : w.covers w.row w.col) (row : w.row = w.firstRow) (col : w.col = w.firstCol) :
    ((List.range (w.rowCount * w.colCount)).map fun k =>
      ((LoadWindow.advance^[k] w).row, (LoadWindow.advance^[k] w).col)).Nodup := by
  refine List.Nodup.map_on (fun j hj k hk same => ?_) List.nodup_range
  obtain ⟨rows, cols⟩ := Prod.mk.inj same
  have place_j := (iterate_advance h row col (List.mem_range.1 hj)).2
  have place_k := (iterate_advance h row col (List.mem_range.1 hk)).2
  rw [← place_j, ← place_k, rows, cols]

/-- A cell of the rectangle is reached at its place in the order. -/
theorem LoadWindow.iterate_advance_rank (h : w.covers w.row w.col) (row : w.row = w.firstRow) (col : w.col = w.firstCol)
    {r c : Nat} (inside : w.covers r c) :
    (LoadWindow.advance^[w.rank r c] w).row = r ∧ (LoadWindow.advance^[w.rank r c] w).col = c := by
  obtain ⟨covered, place⟩ := iterate_advance h row col (rank_lt inside)
  exact rank_inj covered inside place

end

/-! ### One value at the cursor (R61) -/

theorem cellRange_le (t : Table) (col : Nat) : (cellRange t col).1 ≤ (cellRange t col).2 := by
  cases t with
  | params =>
    match col with
    | 0 | 1 | 2 | 3 => decide
    | _ + 4 => exact Nat.le_refl 0
  | _ => simp [cellRange]

theorem clampCell_eq (t : Table) (col v : Nat) :
    clampCell t col v =
      if v < (cellRange t col).1 then (cellRange t col).1
      else if (cellRange t col).2 < v then (cellRange t col).2 else v := by
  have := cellRange_le t col
  unfold clampCell
  split
  · omega
  · split <;> omega

theorem Load.put_of_exhausted {l : Load} (h : l.window.exhausted = true) (v : Nat) :
    l.put v = { l with ignored := l.ignored + 1 } :=
  if_pos h

theorem Load.put_of_not_exhausted {l : Load} (h : l.window.exhausted = false) (v : Nat) :
    l.put v =
      { window := l.window.advance
        cells :=
          writeCell l.cells (cellKey l.window.table l.window.row l.window.col)
            (BitVec.ofNat 16 (clampCell l.window.table l.window.col v))
        written := l.written + 1
        clamped := l.clamped + if clampCell l.window.table l.window.col v = v then 0 else 1
        ignored := l.ignored } := by
  simp only [Load.put, h, Bool.false_eq_true, if_false, Load.mk.injEq, true_and, and_true]
  split <;> rfl

/-! ### Settlement of O38 -/

/-- Settles O38: the moves one by one, and the sweep by the place of each cell in the window's order. -/
theorem cursorSweepsTheWindow : Obligations.CursorSweepsTheWindow := by
  rintro w ⟨-, inside⟩
  refine ⟨w.advance_frame,
    LoadWindow.advance_within_row, LoadWindow.advance_to_next_row, LoadWindow.advance_within_column,
    LoadWindow.advance_to_next_column, LoadWindow.advance_last_ignore, LoadWindow.advance_last_wrap, ?_,
    LoadWindow.covers_advance inside, ?_, fun row col => ⟨LoadWindow.sweep_nodup inside row col, fun r c => ⟨?_, ?_⟩, ?_⟩⟩
  · rintro l v rfl exhausted
    exact Load.put_of_exhausted exhausted v
  · rintro l v rfl live range x
    have clamp : clampCell l.window.table l.window.col v = x := clampCell_eq _ _ v
    rw [Load.put_of_not_exhausted live, clamp]
    exact ⟨rfl, rfl, rfl, rfl, readCell_writeCell_self _ _ _, fun key other => readCell_writeCell_ne _ _ other⟩
  · intro covered
    exact ⟨w.rank r c, LoadWindow.rank_lt covered, LoadWindow.iterate_advance_rank inside row col covered⟩
  · rintro ⟨k, hk, rfl, rfl⟩
    exact (LoadWindow.iterate_advance inside row col hk).1
  · have corner := LoadWindow.covers_last inside
    have place : w.rowCount * w.colCount - 1 = w.rank w.lastRow w.lastCol := by
      rw [← LoadWindow.rank_last corner, Nat.add_sub_cancel]
    have reached := LoadWindow.iterate_advance_rank inside row col corner
    rw [← place] at reached
    exact reached

end Sys2Proof.Machine
end

section
/-! SUPPORT. The choice of a pair (R77 to R79, R86, R87): the pairs searched, the order of preference, the saws of a WASTE. -/

namespace Sys2Proof.Machine

/-! ### Sets of saws -/

theorem getLsbD_foldl_twoPow (ks : List Nat) (acc : SawSet) (k : Nat) :
    (ks.foldl (fun a i => a ||| BitVec.twoPow 13 i) acc).getLsbD k = true ↔ acc.getLsbD k = true ∨ (k < 13 ∧ k ∈ ks) := by
  induction ks generalizing acc with
  | nil => simp
  | cons i ks ih =>
    rw [List.foldl_cons, ih]
    simp only [BitVec.getLsbD_or, BitVec.getLsbD_twoPow, Bool.or_eq_true, Bool.and_eq_true, decide_eq_true_eq, List.mem_cons]
    constructor
    · rintro ((h | ⟨h, rfl⟩) | ⟨h, hk⟩)
      · exact .inl h
      · exact .inr ⟨h, .inl rfl⟩
      · exact .inr ⟨h, .inr hk⟩
    · rintro (h | ⟨h, rfl | hk⟩)
      · exact .inl (.inl h)
      · exact .inl (.inr ⟨h, rfl⟩)
      · exact .inr ⟨h, hk⟩

theorem getLsbD_sawsWhere (n : Nat) (p : Nat → Bool) (k : Nat) :
    (sawsWhere n p).getLsbD k = true ↔ k < 13 ∧ k < n ∧ p k = true := by
  simp [sawsWhere, getLsbD_foldl_twoPow]

/-- R87: the saws of an engine's WASTE. -/
theorem hasSaw_wasteSet (c : LineParams) (length : Nat) (snapshot : SawSet) (k : Nat) :
    hasSaw (wasteSet c length snapshot) k = true ↔ k < c.sn ∧ hasSaw snapshot k = true ∧ c.so + k * c.sp < length := by
  simp only [hasSaw, wasteSet, getLsbD_sawsWhere, Bool.and_eq_true, decide_eq_true_eq]
  exact ⟨fun h => h.2, fun h => ⟨BitVec.lt_of_getLsbD h.2.1, h⟩⟩

/-! ### The pairs searched (R77 to R79) -/

theorem mem_candidatePairs {n : Nat} {snapshot : SawSet} {p : Nat × Nat} :
    p ∈ candidatePairs n snapshot ↔
      p.1 < p.2 ∧ p.2 < n ∧ hasSaw snapshot p.1 = true ∧ hasSaw snapshot p.2 = true := by
  obtain ⟨i, j⟩ := p
  simp only [candidatePairs, List.mem_flatMap, List.mem_map, List.mem_filter, List.mem_range, Prod.mk.injEq, Bool.and_eq_true,
    decide_eq_true_eq]
  constructor
  · rintro ⟨_, _, _, ⟨hj, ⟨hij, hi⟩, hsj⟩, rfl, rfl⟩
    exact ⟨hij, hj, hi, hsj⟩
  · rintro ⟨hij, hj, hi, hsj⟩
    exact ⟨i, hij.trans hj, j, ⟨hj, ⟨hij, hi⟩, hsj⟩, rfl, rfl⟩

/-- R79: the near saw of a pair searched is the lowest of the snapshot in a reduced search. -/
theorem mem_searchedPairs {n : Nat} {snapshot : SawSet} {reduced : Bool} {p : Nat × Nat} :
    p ∈ searchedPairs n snapshot reduced ↔
      p ∈ candidatePairs n snapshot ∧ (reduced = true → ∀ m < p.1, hasSaw snapshot m = false) := by
  cases reduced with
  | false => simp [searchedPairs]
  | true =>
    simp only [searchedPairs, if_true, List.mem_filter, beq_iff_eq, List.find?_range_eq_some, List.mem_range,
      Bool.not_eq_true', true_imp_iff]
    refine and_congr_right fun hp => ?_
    obtain ⟨hij, hj, hi, -⟩ := mem_candidatePairs.1 hp
    exact ⟨fun h => h.2.2, fun h => ⟨hi, hij.trans hj, h⟩⟩

theorem mem_eligibleCandidates {c : LineParams} {bk : Bank} {b : Board} {snapshot : SawSet} {reduced : Bool} {k : Candidate} :
    k ∈ eligibleCandidates c bk b snapshot reduced ↔
      (k.i, k.j) ∈ searchedPairs c.sn snapshot reduced ∧ k.graded = gradePiece c bk b k.i k.j ∧
        minLengthIndex bk ≤ k.j - k.i ∧ c.so + k.j * c.sp ≤ b.length.getD 0 ∧ 0 < k.graded.value := by
  simp only [eligibleCandidates, List.mem_filter, List.mem_map, eligible, Bool.and_eq_true, decide_eq_true_eq]
  constructor
  · rintro ⟨⟨p, hp, rfl⟩, ⟨hlen, hfit⟩, hval⟩
    exact ⟨hp, rfl, hlen, hfit, hval⟩
  · rintro ⟨hp, hg, hlen, hfit, hval⟩
    refine ⟨⟨(k.i, k.j), hp, ?_⟩, ⟨hlen, hfit⟩, hval⟩
    rw [← hg]

/-- Eligible candidates of one pair are one candidate. -/
theorem eq_of_mem_eligibleCandidates {c : LineParams} {bk : Bank} {b : Board} {snapshot : SawSet} {reduced : Bool}
    {k m : Candidate} (hk : k ∈ eligibleCandidates c bk b snapshot reduced)
    (hm : m ∈ eligibleCandidates c bk b snapshot reduced) (near : m.i = k.i) (far : m.j = k.j) : m = k := by
  obtain ⟨-, gk, -⟩ := mem_eligibleCandidates.1 hk
  obtain ⟨-, gm, -⟩ := mem_eligibleCandidates.1 hm
  have graded : m.graded = k.graded := by rw [gm, gk, near, far]
  cases k
  cases m
  simp_all only

theorem near_lt_far_of_mem_eligibleCandidates {c : LineParams} {bk : Bank} {b : Board} {snapshot : SawSet} {reduced : Bool}
    {k : Candidate} (hk : k ∈ eligibleCandidates c bk b snapshot reduced) : k.i < k.j :=
  (mem_candidatePairs.1 (mem_searchedPairs.1 (mem_eligibleCandidates.1 hk).1).1).1

/-! ### The order of preference (R86) -/

theorem preferred_iff {x y : Candidate} :
    preferred x y = true ↔
      y.graded.value < x.graded.value ∨
        (x.graded.value = y.graded.value ∧ (y.j - y.i < x.j - x.i ∨ (x.j - x.i = y.j - y.i ∧ x.i < y.i))) := by
  simp [preferred]

theorem not_preferred_self (x : Candidate) : ¬ preferred x x = true := by
  rw [preferred_iff]
  omega

theorem not_preferred_trans {x y z : Candidate} (hxy : ¬ preferred x y = true) (hyz : ¬ preferred y z = true) :
    ¬ preferred x z = true := by
  rw [preferred_iff] at *
  omega

theorem not_preferred_of_preferred {x y : Candidate} (h : preferred x y = true) : ¬ preferred y x = true := by
  rw [preferred_iff] at *
  omega

theorem bestOf_eq_none {l : List Candidate} : bestOf l = none ↔ l = [] := by
  cases l with
  | nil => exact iff_of_true rfl rfl
  | cons k ks =>
    unfold bestOf
    cases bestOf ks <;> simp

/-- The best of a list is in it, and nothing in the list is preferred to it. -/
theorem bestOf_spec {l : List Candidate} {k : Candidate} (h : bestOf l = some k) :
    k ∈ l ∧ ∀ m ∈ l, ¬ preferred m k = true := by
  induction l generalizing k with
  | nil => cases h
  | cons x xs ih =>
    cases hbest : bestOf xs with
    | none =>
      obtain rfl : x = k := by simpa [bestOf, hbest] using h
      simp [bestOf_eq_none.1 hbest, not_preferred_self]
    | some y =>
      obtain ⟨hy, least⟩ := ih hbest
      have chosen : (if preferred y x then y else x) = k := by simpa [bestOf, hbest] using h
      split at chosen
      case isTrue hyx =>
        subst chosen
        exact ⟨List.mem_cons_of_mem _ hy, List.forall_mem_cons.2 ⟨not_preferred_of_preferred hyx, least⟩⟩
      case isFalse hyx =>
        subst chosen
        exact ⟨List.mem_cons_self,
          List.forall_mem_cons.2 ⟨not_preferred_self x, fun m hm => not_preferred_trans (least m hm) hyx⟩⟩

/-- Of two eligible candidates that differ, the one that is not preferred comes after in the order of R86. -/
theorem after_of_not_preferred {c : LineParams} {bk : Bank} {b : Board} {snapshot : SawSet} {reduced : Bool} {k m : Candidate}
    (hk : k ∈ eligibleCandidates c bk b snapshot reduced) (hm : m ∈ eligibleCandidates c bk b snapshot reduced)
    (h : ¬ preferred m k = true) (differ : m ≠ k) :
    m.graded.value < k.graded.value ∨
      (m.graded.value = k.graded.value ∧ (m.j - m.i < k.j - k.i ∨ (m.j - m.i = k.j - k.i ∧ k.i < m.i))) := by
  have pairs : ¬(m.i = k.i ∧ m.j = k.j) := fun same => differ (eq_of_mem_eligibleCandidates hk hm same.1 same.2)
  have := near_lt_far_of_mem_eligibleCandidates hk
  have := near_lt_far_of_mem_eligibleCandidates hm
  rw [preferred_iff] at h
  omega

/-! ### Settlement of O18 -/

/-- Settles O18: the best of the eligible candidates by induction on the list, its preference being an order of R86. -/
theorem bestPairIsChosen : Obligations.BestPairIsChosen := by
  intro c bk b sn reduced
  refine ⟨fun k => ?_, fun some_pair => ?_, fun no_pair => ?_⟩
  · simp only [mem_eligibleCandidates, mem_searchedPairs, mem_candidatePairs, and_assoc]
  · obtain ⟨k, hk⟩ := Option.ne_none_iff_exists'.1 (mt bestOf_eq_none.1 some_pair)
    obtain ⟨mem, best⟩ := bestOf_spec hk
    exact ⟨k, mem, by simp only [evaluate, hk], fun m hm differ => after_of_not_preferred mem hm (best m hm) differ⟩
  · have none_best := bestOf_eq_none.2 no_pair
    exact ⟨wasteSet c (b.length.getD 0) sn, by simp only [evaluate, none_best], hasSaw_wasteSet c _ sn⟩

end Sys2Proof.Machine
end

section
/-! SUPPORT. The grading unit's engines (R68 to R72): what one step of the arbiter takes, that three steps are all of it, and
an evaluation that completes. -/

namespace Sys2Proof.Machine

/-! ### The free engine (R69) -/

theorem freeEngine_eq_none {es : List Engine} : freeEngine es = none ↔ Engine.idle ∉ es := by
  simp only [freeEngine, List.findIdx?_eq_none_iff, beq_eq_false_iff_ne]
  exact ⟨fun h hidle => h _ hidle rfl, fun h e he hidle => h (hidle ▸ he)⟩

theorem freeEngine_eq_some {es : List Engine} {k : Nat} :
    freeEngine es = some k ↔ es[k]? = some .idle ∧ ∀ j < k, es[j]? ≠ some .idle := by
  simp only [freeEngine, List.findIdx?_eq_some_iff_getElem, beq_iff_eq]
  constructor
  · rintro ⟨hk, idle, lower⟩
    refine ⟨by rw [List.getElem?_eq_getElem hk, idle], fun j hj => ?_⟩
    rw [List.getElem?_eq_getElem (hj.trans hk)]
    exact fun h => lower j hj (Option.some.inj h)
  · rintro ⟨idle, lower⟩
    obtain ⟨hk, idle⟩ := List.getElem?_eq_some_iff.1 idle
    exact ⟨hk, idle, fun j hj h => lower j hj (by rw [List.getElem?_eq_getElem (hj.trans hk), h])⟩

/-! ### One step of the arbiter (R69 to R71) -/

theorem State.arbitrateOnce_of_busy {s : State} (h : Engine.idle ∉ s.grading.engines) : s.arbitrateOnce = s := by
  simp only [State.arbitrateOnce, freeEngine_eq_none.2 h]

theorem State.arbitrateOnce_of_no_work {s : State} (queue : s.grading.queue = []) (regrades : s.grading.regrades = []) :
    s.arbitrateOnce = s := by
  unfold State.arbitrateOnce
  split
  · rfl
  · simp only [regrades, List.isEmpty_nil, if_true, State.takeBoard, queue]

theorem State.arbitrateOnce_of_regrade {s : State} {k : Nat} {x : RegradeEntry} {rest : List RegradeEntry}
    (free : freeEngine s.grading.engines = some k) (regrades : s.grading.regrades = x :: rest) :
    s.arbitrateOnce =
      s.setGrading
        { s.grading with
          regrades := rest, engines := s.grading.engines.set k (.regrading x.tag x.i x.j false) } := by
  simp only [State.arbitrateOnce, free, regrades, List.isEmpty_cons, Bool.false_eq_true, if_false, State.takeRegrade]

theorem State.arbitrateOnce_of_board {s : State} {k : Nat} {t : Tag} {rest : List Tag}
    (free : freeEngine s.grading.engines = some k) (regrades : s.grading.regrades = []) (queue : s.grading.queue = t :: rest) :
    s.arbitrateOnce =
      (s.setGrading
          { s.grading with
            queue := rest
            engines :=
              s.grading.engines.set k (.evaluating t s.snapshot (reducedAt s.config (s.position t))) }).mapBoard t
        fun b => { b with state := .evaluating } := by
  simp only [State.arbitrateOnce, free, regrades, List.isEmpty_nil, if_true, State.takeBoard, queue]

/-- A step of the arbiter changes nothing, or it fills an IDLE engine. -/
theorem State.arbitrateOnce_cases (s : State) :
    s.arbitrateOnce = s ∨
      ∃ k e, s.grading.engines[k]? = some .idle ∧ e ≠ .idle ∧
        s.arbitrateOnce.grading.engines = s.grading.engines.set k e := by
  cases free : freeEngine s.grading.engines with
  | none => exact .inl (State.arbitrateOnce_of_busy (freeEngine_eq_none.1 free))
  | some k =>
    have idle := (freeEngine_eq_some.1 free).1
    cases regrades : s.grading.regrades with
    | cons x rest =>
      rw [State.arbitrateOnce_of_regrade free regrades]
      exact .inr ⟨k, _, idle, Engine.noConfusion, rfl⟩
    | nil =>
      cases queue : s.grading.queue with
      | nil => exact .inl (State.arbitrateOnce_of_no_work queue regrades)
      | cons t rest =>
        rw [State.arbitrateOnce_of_board free regrades queue]
        exact .inr ⟨k, _, idle, Engine.noConfusion, rfl⟩

/-! ### The arbiter as a whole (R69) -/

/-- How many engines are IDLE. -/
def State.idleEngines (s : State) : Nat := s.grading.engines.count .idle

theorem State.idleEngines_le (s : State) : s.idleEngines ≤ s.grading.engines.length := List.count_le_length

theorem State.arbitrateOnce_eq_or_idleEngines_lt (s : State) :
    s.arbitrateOnce = s ∨ s.arbitrateOnce.idleEngines < s.idleEngines := by
  rcases s.arbitrateOnce_cases with same | ⟨k, e, idle, he, filled⟩
  · exact .inl same
  · obtain ⟨hk, idle⟩ := List.getElem?_eq_some_iff.1 idle
    have some_idle : 0 < s.grading.engines.count .idle := List.count_pos_iff.2 (idle ▸ List.getElem_mem hk)
    refine .inr ?_
    simp only [State.idleEngines, filled, List.count_set hk, idle, beq_self_eq_true, if_true, beq_eq_false_iff_ne.2 he]
    simpa using some_idle

/-- After as many steps as there were IDLE engines, one more step changes nothing. -/
theorem State.arbitrateOnce_iterate {n : Nat} {s : State} (h : s.idleEngines ≤ n) :
    (State.arbitrateOnce^[n] s).arbitrateOnce = State.arbitrateOnce^[n] s := by
  induction n generalizing s with
  | zero =>
    rcases s.arbitrateOnce_eq_or_idleEngines_lt with same | fewer
    · exact same
    · omega
  | succ n ih =>
    rw [Function.iterate_succ_apply]
    rcases s.arbitrateOnce_eq_or_idleEngines_lt with same | fewer
    · rw [same, Function.iterate_fixed same]
      exact same
    · exact ih (by omega)

theorem State.arbitrate_of_fixed {s : State} (h : s.arbitrateOnce = s) : s.arbitrate = s := by
  simp only [State.arbitrate, h]

theorem State.arbitrate_of_busy {s : State} (h : Engine.idle ∉ s.grading.engines) : s.arbitrate = s :=
  State.arbitrate_of_fixed (State.arbitrateOnce_of_busy h)

theorem State.arbitrate_of_no_work {s : State} (queue : s.grading.queue = []) (regrades : s.grading.regrades = []) :
    s.arbitrate = s :=
  State.arbitrate_of_fixed (State.arbitrateOnce_of_no_work queue regrades)

/-- With three engines the arbiter's three steps are all it can take. -/
theorem State.arbitrate_arbitrateOnce {s : State} (h : s.grading.engines.length = 3) :
    s.arbitrateOnce.arbitrate = s.arbitrate :=
  State.arbitrateOnce_iterate (n := 3) (h ▸ s.idleEngines_le)

/-! ### What a take of a board holds (R70) -/

theorem State.getLsbD_snapshot (s : State) (n : Nat) :
    s.snapshot.getLsbD n = true ↔ n < 13 ∧ n < s.line.config.sn ∧ (s.saw n).state = .inService := by
  simp only [State.snapshot, getLsbD_sawsWhere, State.sawIn, Bool.and_eq_true, decide_eq_true_eq, beq_iff_eq]
  exact ⟨fun ⟨hn, hsn, _, inService⟩ => ⟨hn, hsn, inService⟩, fun ⟨hn, hsn, inService⟩ => ⟨hn, hsn, hsn, inService⟩⟩

theorem reducedAt_eq (c : LineParams) (position : Nat) :
    reducedAt c position = decide (0 < c.hd ∧ c.d ≤ position + c.h + c.hd) := by
  have distance : c.d - c.h - c.hd ≤ position ↔ c.d ≤ position + c.h + c.hd := by omega
  simp only [reducedAt, distance, Bool.decide_and]

/-! ### One record of the ring changed -/

/-- With no tag twice in the ring, a change of the record of a tag depends only on that record. -/
theorem State.mapBoard_of_mem {s : State} {b : Board} (hnodup : (s.tracker.ring.map fun x => x.tag).Nodup)
    (hb : b ∈ s.tracker.ring) (f : Board → Board) : s.mapBoard b.tag f = s.mapBoard b.tag fun _ => f b := by
  refine congrArg s.setRing (List.map_congr_left fun x hx => ?_)
  by_cases same : x.tag = b.tag
  · rw [List.inj_on_of_nodup_map hnodup hx hb same]
  · rw [if_neg same, if_neg same]

theorem State.findBoard_mapBoard {s : State} {t : Tag} {b : Board} (hb : s.findBoard t = some b) {f : Board → Board}
    (hf : ∀ x, x.tag = t → (f x).tag = t) : (s.mapBoard t f).findBoard t = some (f b) := by
  have keeps : ∀ x : Board, decide ((if x.tag = t then f x else x).tag = t) = decide (x.tag = t) := by
    intro x
    split
    case isTrue hx => simp only [hf x hx, hx]
    case isFalse => rfl
  have tag : b.tag = t := by simpa using List.find?_some hb
  have found : s.tracker.ring.find? (fun x => decide (x.tag = t)) = some b := hb
  change (s.tracker.ring.map _).find? _ = _
  simp only [List.find?_map, Function.comp_def, keeps, found, Option.map_some, if_pos tag]

/-! ### An evaluation that completes (R72) -/

theorem exec_evaluationComplete {s : State} {e : Nat} (he : 1 ≤ e) (h : s.line.resetting = false) :
    exec (.evaluationComplete e) s = .next (s.completeEvaluation (e - 1)) :=
  if_neg (by simp [h]; omega)

theorem State.completeEvaluation_of_none {s : State} {k : Nat}
    (h : ∀ t sn r, s.grading.engines[k]? ≠ some (.evaluating t sn r)) : s.completeEvaluation k = s := by
  unfold State.completeEvaluation
  split
  case h_1 holds => exact absurd holds (h _ _ _)
  case h_2 => rfl

/-- R88: the record that an evaluation completes, DECIDED with its advisory decision. -/
def State.decidedBoard (s : State) (sn : SawSet) (r : Bool) (b : Board) (n : BankName) : Board :=
  { b with advisory := some (evaluate s.line.config (s.bank n) b sn r), state := .decided }

theorem State.writeAdvisory_of_evaluating (s : State) (sn : SawSet) (r : Bool) {b : Board} {n : BankName}
    (state : b.state = .evaluating) (bank : b.bank = some n) : s.writeAdvisory sn r b = s.decidedBoard sn r b n := by
  simp only [State.writeAdvisory, State.boardBank, State.decidedBoard, bank, Option.map_some, state, State.config_eq]

/-- The state at which the arbiter acts when engine `k` has completed the evaluation of board `b`. -/
def State.evaluated (s : State) (k : Nat) (b done : Board) : State :=
  ((s.mapBoard b.tag fun _ => done).setEngine k .idle).offer .console 0x42#8 (done.viewFields 0x00#8)

theorem State.evaluated_grading (s : State) (k : Nat) (b done : Board) :
    (s.evaluated k b done).grading = { s.grading with engines := s.grading.engines.set k .idle } :=
  State.offer_same _ _ _ _ .grading (by decide)

theorem State.completeEvaluation_of_evaluating {s : State} {k : Nat} {sn : SawSet} {r : Bool} {b : Board} {n : BankName}
    (holds : s.grading.engines[k]? = some (.evaluating b.tag sn r)) (hnodup : (s.tracker.ring.map fun x => x.tag).Nodup)
    (hb : b ∈ s.tracker.ring) (state : b.state = .evaluating) (bank : b.bank = some n) :
    s.completeEvaluation k = (s.evaluated k b (s.decidedBoard sn r b n)).arbitrate := by
  have written : s.mapBoard b.tag (s.writeAdvisory sn r) = s.mapBoard b.tag fun _ => s.decidedBoard sn r b n := by
    rw [State.mapBoard_of_mem hnodup hb, State.writeAdvisory_of_evaluating s sn r state bank]
  have found : ((s.mapBoard b.tag fun _ => s.decidedBoard sn r b n).setEngine k .idle).findBoard b.tag =
      some (s.decidedBoard sn r b n) :=
    State.findBoard_mapBoard (State.findBoard_of_mem hnodup hb) fun _ _ => rfl
  simp only [State.completeEvaluation, holds, written, State.offerBoardView, found, boardViewReport_eq]
  rfl

/-! ### Settlement of O16 -/

/-- Settles O16: a completion written out, and the arbiter's first take followed by the rest of its steps. -/
theorem evaluationCompleteWritesTheAdvisory : Obligations.EvaluationCompleteWritesTheAdvisory := by
  refine ⟨fun s e he h => ⟨fun idle => ?_, ?_⟩, fun s engines => ⟨?_, fun k idle lower => ⟨fun x rest regrades => ?_, ?_⟩⟩⟩
  · rw [exec_evaluationComplete he h, State.completeEvaluation_of_none idle]
  · rintro _ sn r b n holds hnodup hb rfl state bank done u
    have completed : exec (.evaluationComplete e) s = .next u.arbitrate := by
      rw [exec_evaluationComplete he h, State.completeEvaluation_of_evaluating holds hnodup hb state bank]
      rfl
    refine ⟨completed, fun queue regrades => ?_⟩
    have grading : u.grading = { s.grading with engines := s.grading.engines.set (e - 1) .idle } :=
      s.evaluated_grading (e - 1) b done
    rw [completed, State.arbitrate_of_no_work (by rw [grading, queue]) (by rw [grading, regrades])]
  · rintro (busy | ⟨queue, regrades⟩)
    · exact State.arbitrate_of_busy busy
    · exact State.arbitrate_of_no_work queue regrades
  · have free := freeEngine_eq_some.2 ⟨idle, lower⟩
    rw [← State.arbitrate_arbitrateOnce engines, State.arbitrateOnce_of_regrade free regrades]
    rfl
  · intro t rest regrades queue
    have free := freeEngine_eq_some.2 ⟨idle, lower⟩
    refine ⟨s.snapshot, s.getLsbD_snapshot, ?_⟩
    rw [← State.arbitrate_arbitrateOnce engines, State.arbitrateOnce_of_board free regrades queue, reducedAt_eq]
    rfl

end Sys2Proof.Machine
end

section
/-! SUPPORT. What counting keeps and what it depends on (R151, R153): the run records but for their counters, and the line
port's frames. -/

namespace Sys2Proof.Machine

/-! ### Frames offered one after another -/

theorem PortState.offers_append (q : PortState) (n r : Nat) (fs gs : List Frame) :
    q.offers n r (fs ++ gs) = (q.offers n r fs).offers n r gs := List.foldl_append

theorem PortState.mem_offers {q : PortState} {g : Frame} (hg : g ∈ q.outbound) (hi : g.informational = false) (n r : Nat)
    (fs : List Frame) : g ∈ (q.offers n r fs).outbound := by
  induction fs generalizing q with
  | nil => exact hg
  | cons f fs ih => exact ih (PortState.mem_offer hg hi)

theorem PortState.offers_inbound (q : PortState) (n r : Nat) (fs : List Frame) : (q.offers n r fs).inbound = q.inbound := by
  induction fs generalizing q with
  | nil => rfl
  | cons f fs ih => exact (ih (q.offer n r f)).trans (q.offer_kept n r f).2.1

/-- The line port is as it was but for frames offered to it. -/
def State.LineOffered (s t : State) : Prop := ∃ fs, t.linePort = s.linePort.offers 32 8 fs

theorem State.LineOffered.of_eq {s t : State} (h : t.linePort = s.linePort) : s.LineOffered t := ⟨[], h⟩

theorem State.LineOffered.trans {s t u : State} (h : s.LineOffered t) (k : t.LineOffered u) : s.LineOffered u := by
  obtain ⟨fs, hfs⟩ := h
  obtain ⟨gs, hgs⟩ := k
  exact ⟨fs ++ gs, by rw [hgs, hfs, PortState.offers_append]⟩

theorem State.LineOffered.foldl {α : Type} {f : State → α → State} (h : ∀ (s : State) a, s.LineOffered (f s a))
    (xs : List α) (s : State) :
    s.LineOffered (xs.foldl f s) := by
  induction xs generalizing s with
  | nil => exact .of_eq rfl
  | cons x xs ih => exact (h s x).trans (ih _)

theorem State.offer_lineOffered (s : State) (p : Port) (k : Byte) (body : List Byte) : s.LineOffered (s.offer p k body) := by
  unfold State.offer
  split
  · exact .of_eq rfl
  · cases p with
    | line => exact ⟨[{ kind := k, tag := 0#8, body := body }], rfl⟩
    | console => exact .of_eq rfl

theorem State.notice_lineOffered (s : State) (n : Notice) : s.LineOffered (s.notice n) := by
  unfold State.notice
  split
  · exact s.offer_lineOffered _ _ _
  · exact .of_eq rfl

/-! ### One addition -/

theorem State.count_of_absent {s : State} {id : Nat} (h : s.findRun id = none) (k n : Nat) : s.count id k n = s := by
  unfold State.count
  rw [h]

/-- R153: one addition in the tally: every record of the id gets the counter of the record found, raised. -/
theorem State.count_tally {s : State} {id : Nat} {r : Run} (h : s.findRun id = some r) (k n : Nat) :
    (s.count id k n).tally =
      { s.tally with
        runs := s.tally.runs.map fun q =>
          if q.id = id then { q with counters := q.counters.set k ((r.counter k).raised (counterTop k) n) } else q } := by
  unfold State.count
  rw [h]
  simp only [Counter.add_eq_raised]
  split
  · exact State.notice_same _ _ .tally (by decide)
  · rfl

theorem State.count_lineOffered (s : State) (id k n : Nat) : s.LineOffered (s.count id k n) := by
  unfold State.count
  split
  · exact .of_eq rfl
  · dsimp only
    split
    · exact (State.LineOffered.of_eq rfl).trans (State.notice_lineOffered (s.setRuns _) _)
    · exact .of_eq rfl

/-- What an addition does to the tally is settled by the tally. -/
theorem State.count_tally_congr {s t : State} (h : t.tally = s.tally) (id k n : Nat) :
    (t.count id k n).tally = (s.count id k n).tally := by
  have found : t.findRun id = s.findRun id := by simp only [State.findRun, h]
  cases hr : s.findRun id with
  | none => rw [State.count_of_absent hr, State.count_of_absent (found.trans hr), h]
  | some r => rw [State.count_tally hr, State.count_tally (found.trans hr), h]

theorem State.countAll_tally_congr {s t : State} (h : t.tally = s.tally) (id : Nat) (adds : List (Nat × Nat)) :
    (t.countAll id adds).tally = (s.countAll id adds).tally := by
  induction adds generalizing s t with
  | nil => exact h
  | cons a adds ih => exact ih (State.count_tally_congr h id a.1 a.2)

/-! ### What counting keeps -/

/-- A run record without its counters. -/
def Run.header (r : Run) : Run := { r with counters := [] }

/-- What counting keeps: the run records but for their counters, the run that logs are booked to, and the line port but for
frames offered to it. -/
structure State.CountKept (s t : State) : Prop where
  headers : t.tally.runs.map Run.header = s.tally.runs.map Run.header
  logRun : t.tally.logRun = s.tally.logRun
  offered : s.LineOffered t

theorem State.CountKept.of_fields {s t : State} (runs : t.tally.runs = s.tally.runs := by rfl)
    (logRun : t.tally.logRun = s.tally.logRun := by rfl) (linePort : t.linePort = s.linePort := by rfl) : s.CountKept t :=
  ⟨congrArg _ runs, logRun, .of_eq linePort⟩

theorem State.CountKept.trans {s t u : State} (h : s.CountKept t) (k : t.CountKept u) : s.CountKept u :=
  ⟨k.headers.trans h.headers, k.logRun.trans h.logRun, h.offered.trans k.offered⟩

theorem State.CountKept.foldl {α : Type} {f : State → α → State} (h : ∀ (s : State) a, s.CountKept (f s a))
    (xs : List α) (s : State) :
    s.CountKept (xs.foldl f s) := by
  induction xs generalizing s with
  | nil => exact .of_fields
  | cons x xs ih => exact (h s x).trans (ih _)

theorem State.count_kept (s : State) (id k n : Nat) : s.CountKept (s.count id k n) := by
  cases h : s.findRun id with
  | none =>
    rw [State.count_of_absent h]
    exact .of_fields
  | some r =>
    refine ⟨?_, by rw [State.count_tally h], s.count_lineOffered id k n⟩
    rw [State.count_tally h, List.map_map]
    refine List.map_congr_left fun q _ => ?_
    simp only [Function.comp]
    split <;> rfl

theorem State.countAll_kept (s : State) (id : Nat) (adds : List (Nat × Nat)) : s.CountKept (s.countAll id adds) :=
  .foldl (fun t (a : Nat × Nat) => t.count_kept id a.1 a.2) adds s

/-- What the run records hold besides their counters is the same where counting alone stands between. -/
theorem State.CountKept.map_eq {s t : State} (h : s.CountKept t) {α : Type} (f : Run → α) (hf : ∀ r, f r.header = f r) :
    t.tally.runs.map f = s.tally.runs.map f := by
  have through : ∀ l : List Run, l.map f = (l.map Run.header).map f := fun l => by
    rw [List.map_map]
    exact List.map_congr_left fun r _ => (hf r).symm
  rw [through, h.headers, ← through]

theorem State.CountKept.ids {s t : State} (h : s.CountKept t) :
    (t.tally.runs.map fun r => r.id) = s.tally.runs.map fun r => r.id := h.map_eq _ fun _ => rfl

theorem State.CountKept.bookedRun {s t : State} (h : s.CountKept t) (b : Option Booking) :
    t.bookedRun b = s.bookedRun b := by
  have through : ∀ (l : List Run) (key : Nat),
      ((l.find? fun r => r.key == key).map fun r => r.id) =
        ((l.map fun r => (r.key, r.id)).find? fun x => x.1 == key).map Prod.snd := fun l key => by
    rw [List.find?_map, Option.map_map]
    rfl
  cases b with
  | none => rfl
  | some b =>
    simp only [State.bookedRun]
    rw [through, through, h.map_eq (fun r => (r.key, r.id)) fun _ => rfl]

end Sys2Proof.Machine
end

section
/-! SUPPORT. What LINE_RESET counts for one record of the ring (R151). -/

namespace Sys2Proof.Machine

/-! ### The three cases of a record -/

/-- R151: the counters of a record's run to which LINE_RESET adds 1: none, DISCARDED, or boards scanned and DISCARDED. -/
def Board.resetCounters (b : Board) : List Nat :=
  match b.state, b.window with
  | .cut, _ => []
  | .scanning, none => []
  | .scanning, some w => if ∃ v ∈ w, v.present = true ∨ v.outcome = .poison then [128, 120] else []
  | _, _ => [120]

/-- R151: a record past its assembly and before the saw line. -/
abbrev Board.inWork (b : Board) : Prop :=
  b.state = .queued ∨ b.state = .evaluating ∨ b.state = .decided ∨ b.state = .committed

theorem State.countReset_of_cut {b : Board} (h : b.state = .cut) (s : State) : s.countReset b = s := by
  simp only [State.countReset, h]

theorem State.countReset_of_inWork {b : Board} (h : b.inWork) (s : State) : s.countReset b = s.countDiscarded b.run := by
  rcases h with h | h | h | h <;> simp only [State.countReset, h]

theorem State.countReset_of_windowless {b : Board} (h : b.state = .scanning) (hw : b.window = none) (s : State) :
    s.countReset b = s := by
  simp only [State.countReset, h, hw]

theorem any_seen_iff (w : List HeadView) :
    (w.any fun v => v.present || v.outcome == .poison) = true ↔ ∃ v ∈ w, v.present = true ∨ v.outcome = .poison := by
  simp

theorem State.countReset_of_seen {b : Board} {w : List HeadView} (h : b.state = .scanning) (hw : b.window = some w)
    (seen : ∃ v ∈ w, v.present = true ∨ v.outcome = .poison) (s : State) :
    s.countReset b = (s.countScanning b.run).countDiscarded b.run := by
  simp only [State.countReset, h, hw, if_pos ((any_seen_iff w).2 seen)]

theorem State.countReset_of_unseen {b : Board} {w : List HeadView} (h : b.state = .scanning) (hw : b.window = some w)
    (unseen : ¬∃ v ∈ w, v.present = true ∨ v.outcome = .poison) (s : State) : s.countReset b = s := by
  simp only [State.countReset, h, hw, if_neg (mt (any_seen_iff w).1 unseen)]

/-- All that LINE_RESET can count for a record, whatever the state it is counted in. -/
theorem State.countReset_cases (b : Board) :
    ((∀ s : State, s.countReset b = s) ∧ b.resetCounters = []) ∨
      ((∀ s : State, s.countReset b = s.countDiscarded b.run) ∧ b.resetCounters = [120]) ∨
      ((∀ s : State, s.countReset b = (s.countScanning b.run).countDiscarded b.run) ∧
        b.resetCounters = [128, 120]) := by
  cases h : b.state with
  | cut => exact .inl ⟨State.countReset_of_cut h, by simp only [Board.resetCounters, h]⟩
  | queued | evaluating | decided | committed =>
    exact .inr (.inl ⟨State.countReset_of_inWork (by simp [Board.inWork, h]), by simp only [Board.resetCounters, h]⟩)
  | scanning =>
    cases hw : b.window with
    | none => exact .inl ⟨State.countReset_of_windowless h hw, by simp only [Board.resetCounters, h, hw]⟩
    | some w =>
      by_cases seen : ∃ v ∈ w, v.present = true ∨ v.outcome = .poison
      · exact .inr (.inr ⟨State.countReset_of_seen h hw seen, by simp only [Board.resetCounters, h, hw, if_pos seen]⟩)
      · exact .inl ⟨State.countReset_of_unseen h hw seen, by simp only [Board.resetCounters, h, hw, if_neg seen]⟩

/-- A record of a run is counted in that run. -/
theorem State.countReset_of_booked {b : Board} {id : Nat} (h : b.run = some id) (s : State) :
    s.countReset b = s.countAll id (b.resetCounters.map fun k => (k, 1)) := by
  rcases State.countReset_cases b with ⟨eq, counters⟩ | ⟨eq, counters⟩ | ⟨eq, counters⟩
  · rw [eq, counters]
    rfl
  · rw [eq, counters, h]
    rfl
  · rw [eq, counters, h]
    rfl

/-- A record of no run is counted in the unattributed figures. -/
theorem State.countReset_of_unbooked {b : Board} (h : b.run = none) :
    ∃ g : Unattributed → Unattributed, ∀ s : State, s.countReset b = s.mapFigures g := by
  rcases State.countReset_cases b with ⟨eq, -⟩ | ⟨eq, -⟩ | ⟨eq, -⟩
  · exact ⟨fun u => u, fun s => eq s⟩
  · exact ⟨fun u => { u with discarded := satAdd Config.max32 u.discarded 1 }, fun s => by rw [eq, h]; rfl⟩
  · exact ⟨fun u =>
      { u with scanned := satAdd Config.max32 u.scanned 1, discarded := satAdd Config.max32 u.discarded 1 },
      fun s => by rw [eq, h]; rfl⟩

/-! ### What it depends on and what it keeps -/

theorem State.countReset_tally_congr {s t : State} (h : t.tally = s.tally) (b : Board) :
    (t.countReset b).tally = (s.countReset b).tally := by
  cases hr : b.run with
  | none =>
    obtain ⟨g, eq⟩ := State.countReset_of_unbooked hr
    simp only [eq, State.mapFigures, h]
  | some id => simpa only [State.countReset_of_booked hr] using State.countAll_tally_congr h id _

theorem State.foldl_countReset_tally_congr {s t : State} (h : t.tally = s.tally) (ring : List Board) :
    (ring.foldl State.countReset t).tally = (ring.foldl State.countReset s).tally := by
  induction ring generalizing s t with
  | nil => exact h
  | cons b ring ih => exact ih (State.countReset_tally_congr h b)

theorem State.countReset_kept (s : State) (b : Board) : s.CountKept (s.countReset b) := by
  cases hr : b.run with
  | none =>
    obtain ⟨g, eq⟩ := State.countReset_of_unbooked hr
    rw [eq]
    exact .of_fields
  | some id =>
    rw [State.countReset_of_booked hr]
    exact s.countAll_kept id _

theorem State.countReset_same (s : State) (b : Board) : s.sameExcept [.tally, .linePort] (s.countReset b) := by
  cases hr : b.run with
  | none =>
    obtain ⟨g, eq⟩ := State.countReset_of_unbooked hr
    rw [eq]
    exact (s.mapFigures_same g).mono (by decide)
  | some id =>
    rw [State.countReset_of_booked hr]
    exact s.countAll_line_same id _

/-! ### The counters of a run -/

/-- R150, R153: what additions to different counters of a run come to in the tally, with or without a PART_RESET that completes
and silences their notices. -/
theorem State.countAll_raises {s : State} {id : Nat} {r : Run} {adds : List (Nat × Nat)}
    (unique : (s.tally.runs.map fun q => q.id).Nodup) (h : s.findRun id = some r) (distinct : (adds.map Prod.fst).Nodup)
    (inside : ∀ a ∈ adds, a.1 < r.counters.length) : s.raisedIn (s.countAll id adds) r adds := by
  obtain ⟨⟨cs, tally, places, raised, kept⟩, -⟩ :=
    State.countAll_raisedIn (s := s.setLine { s.line with resetting := false }) unique h rfl distinct inside
  have same : (s.countAll id adds).tally = ((s.setLine { s.line with resetting := false }).countAll id adds).tally :=
    State.countAll_tally_congr (s := s.setLine { s.line with resetting := false }) (t := s) rfl id adds
  exact ⟨cs, same.trans tally, places, raised, kept⟩

theorem Run.counter_set_self {r : Run} {k : Nat} (h : k < r.counters.length) (c : Counter) :
    ({ r with counters := r.counters.set k c } : Run).counter k = c := by
  simp [Run.counter, h]

theorem Run.counter_raise_self {r : Run} {k : Nat} (h : k < r.counters.length) (n : Nat) :
    (r.raise (k, n)).counter k = (r.counter k).raised (counterTop k) n := Run.counter_set_self h _

/-- R153: the record an id finds after an addition: the one it found, its counter raised. -/
theorem State.findRun_count {s : State} {id : Nat} {r : Run} (h : s.findRun id = some r) (k n : Nat) :
    (s.count id k n).findRun id = some (r.raise (k, n)) := by
  have hid : r.id = id := by simpa using List.find?_some h
  have keeps : ∀ q : Run, decide ((if q.id = id then
      { q with counters := q.counters.set k ((r.counter k).raised (counterTop k) n) } else q : Run).id = id) =
        decide (q.id = id) := by
    intro q
    split <;> rfl
  have found : s.tally.runs.find? (fun q => decide (q.id = id)) = some r := h
  rw [State.findRun, State.count_tally h, List.find?_map]
  simp only [Function.comp_def, keeps, found, Option.map_some, if_pos hid]
  rfl

/-! ### The clauses of R151 -/

theorem State.countReset_unbooked_discarded {b : Board} (h : b.run = none) (hb : b.inWork) (s : State) :
    s.countReset b =
      { s with
        tally :=
          { s.tally with
            unattributed :=
              { s.tally.unattributed with discarded := min 4294967295 (s.tally.unattributed.discarded + 1) } } } := by
  rw [State.countReset_of_inWork hb, h]
  rfl

theorem State.countReset_unbooked_scanned {b : Board} {w : List HeadView} (h : b.run = none) (hs : b.state = .scanning)
    (hw : b.window = some w) (seen : ∃ v ∈ w, v.present = true ∨ v.outcome = .poison) (s : State) :
    s.countReset b =
      { s with
        tally :=
          { s.tally with
            unattributed :=
              { s.tally.unattributed with
                scanned := min 4294967295 (s.tally.unattributed.scanned + 1)
                discarded := min 4294967295 (s.tally.unattributed.discarded + 1) } } } := by
  rw [State.countReset_of_seen hs hw seen, h]
  rfl

theorem not_seen_of_forall {w : List HeadView} (h : ∀ v ∈ w, v.present = false ∧ v.outcome ≠ .poison) :
    ¬∃ v ∈ w, v.present = true ∨ v.outcome = .poison := by
  rintro ⟨v, hv, seen⟩
  obtain ⟨absent, clean⟩ := h v hv
  rcases seen with seen | seen
  · exact absurd (seen.symm.trans absent) (by decide)
  · exact clean seen

theorem Board.resetCounters_of_inWork {b : Board} (h : b.inWork) : b.resetCounters = [120] := by
  rcases h with h | h | h | h <;> simp only [Board.resetCounters, h]

theorem Board.resetCounters_of_seen {b : Board} {w : List HeadView} (h : b.state = .scanning) (hw : b.window = some w)
    (seen : ∃ v ∈ w, v.present = true ∨ v.outcome = .poison) : b.resetCounters = [128, 120] := by
  simp only [Board.resetCounters, h, hw, if_pos seen]

/-- R151: a record of a run of the table, counted in it. -/
theorem State.countReset_raises {s : State} {b : Board} {id : Nat} {r : Run} (hb : b.run = some id)
    (h : s.findRun id = some r) (unique : (s.tally.runs.map fun q => q.id).Nodup) (places : r.counters.length = 133) :
    s.raisedIn (s.countReset b) r (b.resetCounters.map fun k => (k, 1)) := by
  rw [State.countReset_of_booked hb]
  rcases State.countReset_cases b with ⟨-, counters⟩ | ⟨-, counters⟩ | ⟨-, counters⟩ <;> rw [counters] <;>
    exact State.countAll_raises unique h (by simp) (by simp [places])

/-- R151: one DISCARDED in the record that an id finds. -/
theorem State.countReset_discards {s : State} {b : Board} {id : Nat} {r : Run} (hb : b.run = some id)
    (h : s.findRun id = some r) (inside : 120 < r.counters.length) (work : b.inWork) :
    ∃ q, (s.countReset b).findRun id = some q ∧ (q.counter 120).value = min 4294967295 ((r.counter 120).value + 1) ∧
      ∀ k, k ≠ 120 → q.counter k = r.counter k := by
  refine ⟨r.raise (120, 1), ?_, ?_, fun k hk => r.counter_raise_of_ne hk.symm⟩
  · rw [State.countReset_of_inWork work, hb]
    exact State.findRun_count h 120 1
  · rw [Run.counter_raise_self inside]
    rfl

end Sys2Proof.Machine
end

section
/-! SUPPORT. Additions of 1, each named by a run's id and a counter and possibly more than once (R151, R153): the counters
they come to, and the notices they raise, one for each counter that reaches its maximum (log entry 19). -/

namespace Sys2Proof.Machine

/-! ### A counter after a number of ones -/

/-- A counter after `n` additions of 1, one after another. -/
def Counter.afterOnes (c : Counter) (top n : Nat) : Counter := if n = 0 then c else c.raised top n

theorem Counter.raised_raised (c : Counter) (top m n : Nat) : (c.raised top m).raised top n = c.raised top (m + n) := by
  have flags : (decide (top ≤ c.value + m) || decide (top ≤ min top (c.value + m) + n)) =
      decide (top ≤ c.value + (m + n)) := by
    rw [Bool.eq_iff_iff, Bool.or_eq_true]
    simp only [decide_eq_true_eq]
    omega
  unfold Counter.raised
  rw [Counter.mk.injEq, Bool.or_assoc]
  have value : min top (min top (c.value + m) + n) = min top (c.value + (m + n)) := by omega
  exact ⟨value, congrArg _ flags⟩

theorem Counter.afterOnes_raised (c : Counter) (top n : Nat) : (c.raised top 1).afterOnes top n = c.afterOnes top (n + 1) := by
  cases n with
  | zero => rfl
  | succ n =>
    rw [Counter.afterOnes, if_neg (Nat.succ_ne_zero n), Counter.raised_raised, Nat.add_comm 1]
    rfl

/-- R153: the addition that comes after `n` ones takes the flag from clear to set, said of the counter before them all. -/
theorem Counter.reaches_after_ones (c : Counter) (top n : Nat) :
    (!(c.afterOnes top n).saturated && decide (top ≤ (c.afterOnes top n).value + 1)) = true ↔
      c.saturated = false ∧ top ≤ c.value + n + 1 ∧ (n = 0 ∨ c.value + n < top) := by
  unfold Counter.afterOnes
  split
  · rename_i hn
    simp [hn]
  · rename_i hn
    simp only [Bool.and_eq_true, decide_eq_true_eq, Bool.not_eq_true', hn, false_or]
    simp only [Counter.raised, Bool.or_eq_false_iff, decide_eq_false_iff_not, not_le, and_assoc]
    refine and_congr_right fun _ => ?_
    omega

/-! ### A run after a list of ones -/

/-- A run record after the ones of a list that name its id. -/
def Run.afterOnes (r : Run) (ones : List (Nat × Nat)) : Run :=
  ones.foldl (fun q a => if a.1 = q.id then q.raise (a.2, 1) else q) r

@[simp] theorem Run.afterOnes_id (r : Run) (ones : List (Nat × Nat)) : (r.afterOnes ones).id = r.id := by
  induction ones generalizing r with
  | nil => rfl
  | cons a ones ih =>
    refine (ih _).trans ?_
    dsimp only
    split <;> rfl

theorem Run.afterOnes_concat (r : Run) (ones : List (Nat × Nat)) (a : Nat × Nat) :
    r.afterOnes (ones ++ [a]) = if a.1 = r.id then (r.afterOnes ones).raise (a.2, 1) else r.afterOnes ones := by
  rw [← r.afterOnes_id ones, Run.afterOnes, List.foldl_append]
  rfl

theorem Run.afterOnes_cons_self (r : Run) (k : Nat) (ones : List (Nat × Nat)) :
    r.afterOnes ((r.id, k) :: ones) = (r.raise (k, 1)).afterOnes ones := by
  rw [Run.afterOnes, List.foldl_cons, if_pos rfl]
  rfl

theorem Run.afterOnes_cons_of_ne (r : Run) {a : Nat × Nat} (h : a.1 ≠ r.id) (ones : List (Nat × Nat)) :
    r.afterOnes (a :: ones) = r.afterOnes ones := by
  rw [Run.afterOnes, List.foldl_cons, if_neg h]
  rfl

/-- R153: a counter of the run after the ones, by how often they name it. -/
theorem Run.counter_afterOnes {r : Run} {k : Nat} (h : k < r.counters.length) (ones : List (Nat × Nat)) :
    (r.afterOnes ones).counter k = (r.counter k).afterOnes (counterTop k) (ones.count (r.id, k)) := by
  induction ones generalizing r with
  | nil => rfl
  | cons a ones ih =>
    obtain ⟨id, j⟩ := a
    by_cases hid : id = r.id
    · subst hid
      rw [Run.afterOnes_cons_self, ih (by rwa [r.raise_length])]
      change ((r.raise (j, 1)).counter k).afterOnes (counterTop k) (ones.count (r.id, k)) = _
      by_cases hj : j = k
      · subst hj
        rw [Run.counter_raise_self h, Counter.afterOnes_raised, List.count_cons_self]
      · rw [r.counter_raise_of_ne hj, List.count_cons_of_ne (by simp [hj])]
    · rw [r.afterOnes_cons_of_ne hid, ih h, List.count_cons_of_ne (by simp [hid])]

theorem Run.counter_raise_value_le (r : Run) (k : Nat) : ((r.raise (k, 1)).counter k).value ≤ (r.counter k).value + 1 := by
  by_cases h : k < r.counters.length
  · rw [Run.counter_raise_self h]
    exact Nat.min_le_right _ _
  · rw [Run.raise, List.set_eq_of_length_le (Nat.le_of_not_lt h)]
    exact Nat.le_succ _

/-- No counter, listed or not, grows by more than the ones that name it. -/
theorem Run.counter_afterOnes_value_le (r : Run) (k : Nat) (ones : List (Nat × Nat)) :
    ((r.afterOnes ones).counter k).value ≤ (r.counter k).value + ones.count (r.id, k) := by
  induction ones generalizing r with
  | nil => exact Nat.le_refl _
  | cons a ones ih =>
    obtain ⟨id, j⟩ := a
    by_cases hid : id = r.id
    · subst hid
      rw [Run.afterOnes_cons_self]
      refine (ih _).trans ?_
      change _ + ones.count (r.id, k) ≤ _
      by_cases hj : j = k
      · subst hj
        have grown := r.counter_raise_value_le j
        rw [List.count_cons_self]
        omega
      · rw [r.counter_raise_of_ne hj, List.count_cons_of_ne (by simp [hj])]
    · rw [r.afterOnes_cons_of_ne hid, List.count_cons_of_ne (by simp [hid])]
      exact ih r

/-! ### The notices of ones -/

/-- R153, R164: the notice of an addition of 1 that comes after the additions `before`. -/
def State.oneNotice (s : State) (before : List (Nat × Nat)) (one : Nat × Nat) : List Frame :=
  match s.findRun one.1 with
  | none => []
  | some r => s.saturationNotices (r.afterOnes before) [(one.2, 1)]

theorem State.oneNotice_of_absent {s : State} {one : Nat × Nat} (h : s.findRun one.1 = none) (before : List (Nat × Nat)) :
    s.oneNotice before one = [] := by
  rw [State.oneNotice, h]

theorem State.oneNotice_of_findRun {s : State} {one : Nat × Nat} {r : Run} (h : s.findRun one.1 = some r)
    (before : List (Nat × Nat)) : s.oneNotice before one = s.saturationNotices (r.afterOnes before) [(one.2, 1)] := by
  rw [State.oneNotice, h]

/-- The notices of a list of ones, each after those before it. -/
def State.onesNotices (s : State) (ones : List (Nat × Nat)) : List Frame :=
  (List.range ones.length).flatMap fun m => s.oneNotice (ones.take m) (ones.getD m (0, 0))

theorem State.onesNotices_concat (s : State) (ones : List (Nat × Nat)) (one : Nat × Nat) :
    s.onesNotices (ones ++ [one]) = s.onesNotices ones ++ s.oneNotice ones one := by
  have earlier : ∀ m ∈ List.range ones.length,
      s.oneNotice ((ones ++ [one]).take m) ((ones ++ [one]).getD m (0, 0)) =
        s.oneNotice (ones.take m) (ones.getD m (0, 0)) := by
    intro m hm
    have hlt := List.mem_range.1 hm
    rw [List.take_append_of_le_length hlt.le, List.getD_append _ _ _ _ hlt]
  have last : s.oneNotice ((ones ++ [one]).take ones.length) ((ones ++ [one]).getD ones.length (0, 0)) =
      s.oneNotice ones one := by
    simp
  rw [State.onesNotices, List.length_append, List.length_singleton, List.range_succ, List.flatMap_append,
    List.flatMap_singleton, last, List.flatMap_congr earlier]
  rfl

theorem State.saturationNotices_one_eq (s : State) (r : Run) (k : Nat) :
    s.saturationNotices r [(k, 1)] =
      if s.line.noticeMask.getLsbD 6 = true ∧
          (!(r.counter k).saturated && decide (counterTop k ≤ (r.counter k).value + 1)) = true then
        [{ kind := 0x48#8, tag := 0#8, body := [0x06#8] ++ le2 r.id ++ [byteOf k, 0xFF#8] }]
      else [] := by
  unfold State.saturationNotices
  rw [List.filter_singleton]
  by_cases mask : s.line.noticeMask.getLsbD 6 = true <;>
    cases !(r.counter k).saturated && decide (counterTop k ≤ (r.counter k).value + 1) <;> simp [mask]

/-- The notice of an addition names a run of the table and the counter added to. -/
theorem State.mem_oneNotice {s : State} {before : List (Nat × Nat)} {one : Nat × Nat} {g : Frame}
    (hg : g ∈ s.oneNotice before one) :
    ∃ r ∈ s.tally.runs, g = { kind := 0x48#8, tag := 0#8, body := [0x06#8] ++ le2 r.id ++ [byteOf one.2, 0xFF#8] } := by
  cases h : s.findRun one.1 with
  | none =>
    rw [State.oneNotice_of_absent h] at hg
    exact absurd hg List.not_mem_nil
  | some r =>
    rw [State.oneNotice_of_findRun h, State.saturationNotices_one_eq, List.mem_ite_nil_right] at hg
    exact ⟨r, List.mem_of_find?_eq_some h, by simpa using hg.2⟩

theorem State.exists_of_mem_onesNotices {s : State} {ones : List (Nat × Nat)} {g : Frame} (hg : g ∈ s.onesNotices ones) :
    ∃ m < ones.length, g ∈ s.oneNotice (ones.take m) (ones.getD m (0, 0)) := by
  obtain ⟨m, hm, hg⟩ := List.mem_flatMap.1 hg
  exact ⟨m, List.mem_range.1 hm, hg⟩

theorem getD_mem {ones : List (Nat × Nat)} {m : Nat} (h : m < ones.length) : ones.getD m (0, 0) ∈ ones := by
  rw [List.getD_eq_getElem _ _ h]
  exact List.getElem_mem h

/-- The additions before the m-th name its counter once less than those up to it. -/
theorem count_take_lt {ones : List (Nat × Nat)} {m : Nat} (h : m < ones.length) :
    (ones.take m).count (ones.getD m (0, 0)) + 1 ≤ ones.count (ones.getD m (0, 0)) := by
  have upTo : ones.take (m + 1) = ones.take m ++ [ones.getD m (0, 0)] := by
    rw [List.getD_eq_getElem _ _ h, List.take_succ_eq_append_getElem h]
  have counted := (List.take_sublist (m + 1) ones).count_le (ones.getD m (0, 0))
  rw [upTo] at counted
  simpa using counted

theorem State.onesNotices_of_masked {s : State} (h : s.line.noticeMask.getLsbD 6 = false) (ones : List (Nat × Nat)) :
    s.onesNotices ones = [] := by
  refine List.flatMap_eq_nil_iff.2 fun m _ => ?_
  cases hr : s.findRun (ones.getD m (0, 0)).1 with
  | none => exact State.oneNotice_of_absent hr _
  | some r =>
    rw [State.oneNotice_of_findRun hr, State.saturationNotices_one_eq, h]
    exact if_neg (by simp)

/-- Where no counter named comes near its maximum there is no notice. -/
theorem State.onesNotices_of_low {s : State} {ones : List (Nat × Nat)}
    (h : ∀ r ∈ s.tally.runs, ∀ a ∈ ones, (r.counter a.2).value + ones.count a < counterTop a.2) : s.onesNotices ones = [] := by
  refine List.flatMap_eq_nil_iff.2 fun m hm => ?_
  have hlt := List.mem_range.1 hm
  cases hr : s.findRun (ones.getD m (0, 0)).1 with
  | none => exact State.oneNotice_of_absent hr _
  | some r =>
    have hid : r.id = (ones.getD m (0, 0)).1 := by simpa using List.find?_some hr
    have below := h r (List.mem_of_find?_eq_some hr) _ (getD_mem hlt)
    have counted := count_take_lt hlt
    have reached := r.counter_afterOnes_value_le (ones.getD m (0, 0)).2 (ones.take m)
    rw [hid] at reached
    rw [State.oneNotice_of_findRun hr, State.saturationNotices_one_eq]
    refine if_neg fun both => ?_
    have top := of_decide_eq_true (Bool.and_eq_true_iff.1 both.2).2
    change _ + (ones.take m).count (ones.getD m (0, 0)) ≥ _ at reached
    omega

/-- Where every counter named is listed, the notices are those the statements speak of. -/
theorem State.onesNotices_eq_noticesOfOnes {s : State} {ones : List (Nat × Nat)}
    (h : ∀ r ∈ s.tally.runs, ∀ a ∈ ones, a.2 < r.counters.length) : s.onesNotices ones = s.noticesOfOnes ones := by
  unfold State.noticesOfOnes
  by_cases mask : s.line.noticeMask.getLsbD 6 = true
  · rw [if_pos mask]
    refine List.flatMap_congr fun m hm => ?_
    dsimp only
    cases hr : s.findRun (ones.getD m (0, 0)).1 with
    | none => exact State.oneNotice_of_absent hr _
    | some r =>
      have hid : r.id = (ones.getD m (0, 0)).1 := by simpa using List.find?_some hr
      have listed := h r (List.mem_of_find?_eq_some hr) _ (getD_mem (List.mem_range.1 hm))
      rw [State.oneNotice_of_findRun hr, State.saturationNotices_one_eq, Run.counter_afterOnes listed, Run.afterOnes_id, hid]
      exact if_congr ((and_iff_right mask).trans (Counter.reaches_after_ones _ _ _)) rfl rfl
  · rw [if_neg mask]
    exact State.onesNotices_of_masked (Bool.eq_false_iff.2 mask) ones

/-! ### States reached by ones -/

/-- R153: the state `t` comes from `s` by additions of 1: its runs, and the frames at its line port. -/
structure State.CountedBy (s t : State) (ones : List (Nat × Nat)) : Prop where
  runs : t.tally.runs = s.tally.runs.map fun r => r.afterOnes ones
  line : t.line = s.line
  linePort : t.linePort = s.linePort.offers 32 8 (s.onesNotices ones)

theorem State.CountedBy.refl (s : State) : s.CountedBy s [] := ⟨(List.map_id _).symm, rfl, rfl⟩

theorem State.CountedBy.of_same {s t u : State} {ones : List (Nat × Nat)} (h : s.CountedBy t ones)
    (runs : u.tally.runs = t.tally.runs := by rfl) (line : u.line = t.line := by rfl)
    (linePort : u.linePort = t.linePort := by rfl) : s.CountedBy u ones :=
  ⟨runs.trans h.runs, line.trans h.line, linePort.trans h.linePort⟩

theorem State.CountedBy.findRun {s t : State} {ones : List (Nat × Nat)} (h : s.CountedBy t ones) (id : Nat) :
    t.findRun id = (s.findRun id).map fun r => r.afterOnes ones := by
  simp only [State.findRun, h.runs, List.find?_map, Function.comp_def, Run.afterOnes_id]

theorem State.CountedBy.ids {s t : State} {ones : List (Nat × Nat)} (h : s.CountedBy t ones) :
    (t.tally.runs.map fun r => r.id) = s.tally.runs.map fun r => r.id := by
  simp only [h.runs, List.map_map, Function.comp_def, Run.afterOnes_id]

/-- The notices of an addition come from the notice mask alone. -/
theorem State.saturationNotices_congr {s t : State} (h : t.line = s.line) (r : Run) (adds : List (Nat × Nat)) :
    t.saturationNotices r adds = s.saturationNotices r adds := by
  simp only [State.saturationNotices, h]

/-- One more addition of 1. -/
theorem State.CountedBy.count {s t : State} {ones : List (Nat × Nat)} (unique : (s.tally.runs.map fun r => r.id).Nodup)
    (hs : s.line.resetting = false) (h : s.CountedBy t ones) (id k : Nat) :
    s.CountedBy (t.count id k 1) (ones ++ [(id, k)]) := by
  cases hr : s.findRun id with
  | none =>
    have absent : t.findRun id = none := by rw [h.findRun, hr, Option.map_none]
    have others : ∀ r ∈ s.tally.runs, id ≠ r.id := fun r hmem e =>
      absurd e.symm (by simpa using List.find?_eq_none.1 hr r hmem)
    rw [State.count_of_absent absent]
    refine ⟨h.runs.trans (List.map_congr_left fun r hmem => ?_), h.line, ?_⟩
    · rw [Run.afterOnes_concat, if_neg (others r hmem)]
    · rw [State.onesNotices_concat, State.oneNotice_of_absent hr, List.append_nil]
      exact h.linePort
  | some r =>
    have found : t.findRun id = some (r.afterOnes ones) := by rw [h.findRun, hr, Option.map_some]
    refine ⟨?_, (State.count_line_same t id k 1 .line (by decide)).trans h.line, ?_⟩
    · rw [State.count_tally found, h.runs, List.map_map]
      refine List.map_congr_left fun q hq => ?_
      rw [Function.comp, Run.afterOnes_concat]
      by_cases hid : id = q.id
      · have same : q = r := State.eq_of_findRun unique hr hq hid.symm
        rw [if_pos hid, if_pos ((q.afterOnes_id ones).trans hid.symm), same]
        rfl
      · rw [if_neg hid, if_neg fun e => hid (e.symm.trans (q.afterOnes_id ones))]
    · rw [State.count_of_findRun (h.ids ▸ unique) found (h.line ▸ hs), State.onesNotices_concat,
        State.oneNotice_of_findRun hr, PortState.offers_append, ← h.linePort, State.saturationNotices_congr h.line]
      rfl

theorem State.CountedBy.countAll {s t : State} {ones : List (Nat × Nat)} (unique : (s.tally.runs.map fun r => r.id).Nodup)
    (hs : s.line.resetting = false) (h : s.CountedBy t ones) (id : Nat) (ks : List Nat) :
    s.CountedBy (t.countAll id (ks.map fun k => (k, 1))) (ones ++ ks.map fun k => (id, k)) := by
  induction ks generalizing t ones with
  | nil => exact (List.append_nil ones).symm ▸ h
  | cons k ks ih =>
    have rest := ih (h.count unique hs id k)
    rwa [List.append_assoc] at rest

end Sys2Proof.Machine
end

section
/-! SUPPORT. LINE_RESET part by part (R162): what it counts, what it empties, and its reports in their order. -/

namespace Sys2Proof.Machine

/-! ### The counts of the ring and of the log (R38, R151) -/

/-- The records of the ring counted. -/
def State.countBoards (s : State) : State := s.tracker.ring.foldl State.countReset s

theorem State.countBoards_kept (s : State) : s.CountKept s.countBoards := .foldl State.countReset_kept _ s

theorem State.countBoards_same (s : State) : s.sameExcept [.tally, .linePort] s.countBoards :=
  .foldl State.countReset_same _ s

theorem State.discardLog_of_idle {s : State} (h : s.logs.current = none) : s.discardLog = s := by
  unfold State.discardLog
  rw [h]

theorem State.discardLog_of_log {s : State} {l : LogInProgress} (h : s.logs.current = some l) :
    s.discardLog = s.closeLog.countDebris l.booking := by
  unfold State.discardLog
  rw [h]
  rfl

theorem State.closeLog_of_idle {s : State} (h : s.logs.current = none) : s.closeLog = s := by
  unfold State.closeLog
  rw [← h]
  rfl

theorem State.countDebris_kept (s : State) (b : Option Booking) : s.CountKept (s.countDebris b) := by
  cases h : s.bookedRun b with
  | none =>
    rw [State.countDebris_of_unbooked h]
    exact .of_fields
  | some id =>
    rw [State.countDebris_of_booked h]
    exact s.countAll_kept id _

theorem State.discardLog_kept (s : State) : s.CountKept s.discardLog := by
  cases h : s.logs.current with
  | none =>
    rw [State.discardLog_of_idle h]
    exact .of_fields
  | some l =>
    rw [State.discardLog_of_log h]
    exact State.CountKept.trans (t := s.closeLog) .of_fields (State.countDebris_kept _ _)

theorem State.discardLog_same (s : State) : s.closeLog.sameExcept [.tally, .linePort] s.discardLog := by
  cases h : s.logs.current with
  | none =>
    rw [State.discardLog_of_idle h, State.closeLog_of_idle h]
    exact .refl _ s
  | some l =>
    rw [State.discardLog_of_log h]
    exact State.countDebris_same _ _

theorem State.countDiscards_kept (s : State) : s.CountKept s.countDiscards :=
  s.countBoards_kept.trans (State.discardLog_kept _)

theorem State.countDiscards_same (s : State) : s.sameExcept [.logs, .tally, .linePort] s.countDiscards :=
  (s.countBoards_same.mono (by decide)).trans
    ((State.setLogs_same _ _).after (State.discardLog_same s.countBoards) (by decide) (by decide))

theorem State.countDiscards_logs (s : State) : s.countDiscards.logs = { s.logs with current := none } := by
  have logs : s.countBoards.logs = s.logs := s.countBoards_same .logs (by decide)
  refine (State.discardLog_same s.countBoards .logs (by decide)).trans ?_
  change { s.countBoards.logs with current := none } = _
  rw [logs]

/-- R151, R38: the tally of which LINE_RESET speaks: the records counted, and then the log in progress. -/
def State.resetTally (s : State) : Tally :=
  let boards := s.countBoards.tally
  match s.logs.current with
  | none => boards
  | some l =>
    match s.bookedRun l.booking with
    | none =>
      { boards with
        unattributed := { boards.unattributed with debris := min 4294967295 (boards.unattributed.debris + 1) } }
    | some id =>
      { boards with
        runs := boards.runs.map fun r =>
          if r.id = id then { r with counters := r.counters.set 131 ((r.counter 131).raised 4294967295 1) } else r }

theorem State.count_unattributed (s : State) (id k n : Nat) :
    (s.count id k n).tally.unattributed = s.tally.unattributed := by
  cases h : s.findRun id with
  | none => rw [State.count_of_absent h]
  | some r => rw [State.count_tally h]

/-- R153: with no id twice in the table, an addition raises a counter of the runs of its id. -/
theorem State.count_runs {s : State} (unique : (s.tally.runs.map fun r => r.id).Nodup) (id k n : Nat) :
    (s.count id k n).tally.runs = s.tally.runs.map fun r => if r.id = id then r.raise (k, n) else r := by
  cases h : s.findRun id with
  | none =>
    rw [State.count_of_absent h]
    refine (List.map_id _).symm.trans (List.map_congr_left fun r hr => ?_)
    rw [if_neg (by simpa using List.find?_eq_none.1 h r hr)]
    rfl
  | some r =>
    rw [State.count_tally h]
    refine List.map_congr_left fun q hq => ?_
    split
    · rename_i hid
      rw [State.eq_of_findRun unique h hq hid]
      rfl
    · rfl

theorem State.countDiscards_tally (s : State) :
    s.countDiscards.tally.unattributed = s.resetTally.unattributed ∧
      ((s.tally.runs.map fun r => r.id).Nodup → s.countDiscards.tally.runs = s.resetTally.runs) := by
  have logs : s.countBoards.logs = s.logs := s.countBoards_same .logs (by decide)
  unfold State.resetTally
  change s.countBoards.discardLog.tally.unattributed = _ ∧ (_ → s.countBoards.discardLog.tally.runs = _)
  cases hl : s.logs.current with
  | none =>
    rw [State.discardLog_of_idle (logs ▸ hl)]
    exact ⟨rfl, fun _ => rfl⟩
  | some l =>
    have booked : s.countBoards.closeLog.bookedRun l.booking = s.bookedRun l.booking := s.countBoards_kept.bookedRun _
    rw [State.discardLog_of_log (logs ▸ hl)]
    dsimp only
    cases hb : s.bookedRun l.booking with
    | none =>
      rw [State.countDebris_of_unbooked (booked.trans hb)]
      exact ⟨rfl, fun _ => rfl⟩
    | some id =>
      rw [State.countDebris_of_booked (booked.trans hb)]
      exact ⟨State.count_unattributed _ id 131 1, fun unique =>
        State.count_runs (s := s.countBoards.closeLog) (s.countBoards_kept.ids ▸ unique) id 131 1⟩

/-! ### The counts as additions of 1 -/

/-- R151: the additions of 1 that a record makes to counters of runs. -/
def Board.resetOnes (b : Board) : List (Nat × Nat) :=
  match b.run with
  | none => []
  | some id =>
    match b.state, b.window with
    | .cut, _ => []
    | .scanning, none => []
    | .scanning, some w => if ∃ v ∈ w, v.present = true ∨ v.outcome = .poison then [(id, 128), (id, 120)] else []
    | _, _ => [(id, 120)]

theorem Board.resetOnes_of_unbooked {b : Board} (h : b.run = none) : b.resetOnes = [] := by
  unfold Board.resetOnes
  rw [h]

theorem Board.resetOnes_of_booked {b : Board} {id : Nat} (h : b.run = some id) :
    b.resetOnes = b.resetCounters.map fun k => (id, k) := by
  simp only [Board.resetOnes, Board.resetCounters, h]
  split
  · rfl
  · rfl
  · split <;> rfl
  · rfl

/-- R38: the addition of 1 that a log in progress makes to a counter of a run. -/
def State.logOnes (s : State) : List (Nat × Nat) :=
  match s.logs.current with
  | none => []
  | some l =>
    match s.bookedRun l.booking with
    | none => []
    | some id => [(id, 131)]

/-- The additions of 1 of a LINE_RESET: the records in the order of the ring, then the log (log entry 19). -/
def State.resetOnes (s : State) : List (Nat × Nat) := s.tracker.ring.flatMap Board.resetOnes ++ s.logOnes

section
variable {s t : State} {ones : List (Nat × Nat)} (unique : (s.tally.runs.map fun r => r.id).Nodup)
  (hs : s.line.resetting = false)
include unique hs

theorem State.CountedBy.countReset (h : s.CountedBy t ones) (b : Board) :
    s.CountedBy (t.countReset b) (ones ++ b.resetOnes) := by
  cases hr : b.run with
  | none =>
    obtain ⟨g, eq⟩ := State.countReset_of_unbooked hr
    rw [eq, Board.resetOnes_of_unbooked hr, List.append_nil]
    exact h.of_same
  | some id =>
    rw [State.countReset_of_booked hr, Board.resetOnes_of_booked hr]
    exact h.countAll unique hs id b.resetCounters

theorem State.CountedBy.foldl_countReset (h : s.CountedBy t ones) (ring : List Board) :
    s.CountedBy (ring.foldl State.countReset t) (ones ++ ring.flatMap Board.resetOnes) := by
  induction ring generalizing t ones with
  | nil => exact (List.append_nil ones).symm ▸ h
  | cons b ring ih =>
    rw [List.flatMap_cons, ← List.append_assoc]
    exact ih (h.countReset unique hs b)

theorem State.countDiscards_countedBy : s.CountedBy s.countDiscards s.resetOnes := by
  have boards : s.CountedBy s.countBoards (s.tracker.ring.flatMap Board.resetOnes) :=
    (State.CountedBy.refl s).foldl_countReset unique hs s.tracker.ring
  have logs : s.countBoards.logs = s.logs := s.countBoards_same .logs (by decide)
  unfold State.resetOnes State.logOnes
  change s.CountedBy s.countBoards.discardLog _
  cases hl : s.logs.current with
  | none =>
    rw [State.discardLog_of_idle (logs ▸ hl), List.append_nil]
    exact boards
  | some l =>
    have booked : s.countBoards.closeLog.bookedRun l.booking = s.bookedRun l.booking := s.countBoards_kept.bookedRun _
    have closed : s.CountedBy s.countBoards.closeLog (s.tracker.ring.flatMap Board.resetOnes) := boards.of_same
    rw [State.discardLog_of_log (logs ▸ hl)]
    dsimp only
    cases hb : s.bookedRun l.booking with
    | none =>
      rw [State.countDebris_of_unbooked (booked.trans hb), List.append_nil]
      exact closed.of_same
    | some id =>
      rw [State.countDebris_of_booked (booked.trans hb)]
      exact closed.count unique hs id 131

end

theorem Board.resetCounters_spec (b : Board) : b.resetCounters.Nodup ∧ ∀ k ∈ b.resetCounters, k ∈ [120, 128, 131] := by
  rcases State.countReset_cases b with ⟨-, counters⟩ | ⟨-, counters⟩ | ⟨-, counters⟩ <;> rw [counters] <;> decide

theorem State.resetOnes_counters {s : State} {a : Nat × Nat} (ha : a ∈ s.resetOnes) : a.2 ∈ [120, 128, 131] := by
  rcases List.mem_append.1 ha with ha | ha
  · obtain ⟨b, -, ha⟩ := List.mem_flatMap.1 ha
    cases hr : b.run with
    | none =>
      rw [Board.resetOnes_of_unbooked hr] at ha
      exact absurd ha List.not_mem_nil
    | some id =>
      rw [Board.resetOnes_of_booked hr] at ha
      obtain ⟨k, hk, rfl⟩ := List.mem_map.1 ha
      exact b.resetCounters_spec.2 k hk
  · unfold State.logOnes at ha
    split at ha
    · exact absurd ha List.not_mem_nil
    · split at ha
      · exact absurd ha List.not_mem_nil
      · simp [List.mem_singleton.1 ha]

theorem Board.count_resetOnes_le (b : Board) (a : Nat × Nat) : b.resetOnes.count a ≤ 1 := by
  refine List.nodup_iff_count_le_one.1 ?_ a
  cases hr : b.run with
  | none =>
    rw [Board.resetOnes_of_unbooked hr]
    exact List.nodup_nil
  | some id =>
    rw [Board.resetOnes_of_booked hr]
    exact b.resetCounters_spec.1.map fun _ _ e => (Prod.mk.inj e).2

theorem State.count_logOnes_le (s : State) (a : Nat × Nat) : s.logOnes.count a ≤ 1 := by
  refine List.nodup_iff_count_le_one.1 ?_ a
  unfold State.logOnes
  split
  · exact List.nodup_nil
  · split
    · exact List.nodup_nil
    · exact List.nodup_singleton _

/-- A LINE_RESET names no counter more often than once for each record and once for the log. -/
theorem State.count_resetOnes_le (s : State) (a : Nat × Nat) : s.resetOnes.count a ≤ s.tracker.ring.length + 1 := by
  have boards : ∀ ring : List Board, (ring.flatMap Board.resetOnes).count a ≤ ring.length := by
    intro ring
    induction ring with
    | nil => exact Nat.le_refl _
    | cons b ring ih =>
      rw [List.flatMap_cons, List.count_append, List.length_cons, Nat.add_comm]
      exact Nat.add_le_add ih (b.count_resetOnes_le a)
  rw [State.resetOnes, List.count_append]
  exact Nat.add_le_add (boards _) (s.count_logOnes_le a)

/-! ### The notices of the counts (R153, R164) -/

theorem State.mem_resetNotices {s : State} {g : Frame} (hg : g ∈ s.onesNotices s.resetOnes) :
    ∃ r ∈ s.tally.runs, ∃ k ∈ [120, 128, 131],
      g = { kind := 0x48#8, tag := 0#8, body := [0x06#8] ++ le2 r.id ++ [byteOf k, 0xFF#8] } := by
  obtain ⟨m, hm, hg⟩ := State.exists_of_mem_onesNotices hg
  obtain ⟨r, hr, rfl⟩ := State.mem_oneNotice hg
  exact ⟨r, hr, _, State.resetOnes_counters (getD_mem hm), rfl⟩

theorem counterTop_of_mem {k : Nat} (h : k ∈ [120, 128, 131]) : counterTop k = 4294967295 := by
  simp only [List.mem_cons, List.not_mem_nil, or_false] at h
  rcases h with rfl | rfl | rfl <;> rfl

theorem State.resetNotices_of_quiet {s : State}
    (h : s.line.noticeMask.getLsbD 6 = false ∨
      ∀ r ∈ s.tally.runs, ∀ k ∈ [120, 128, 131], (r.counter k).value + s.tracker.ring.length + 1 < 4294967295) :
    s.onesNotices s.resetOnes = [] := by
  rcases h with masked | low
  · exact State.onesNotices_of_masked masked _
  · refine State.onesNotices_of_low fun r hr a ha => ?_
    have hk := State.resetOnes_counters ha
    have below := low r hr a.2 hk
    have named := s.count_resetOnes_le a
    rw [counterTop_of_mem hk]
    omega

theorem State.resetNotices_eq {s : State} (h : ∀ r ∈ s.tally.runs, r.counters.length = 133) :
    s.onesNotices s.resetOnes = s.noticesOfOnes s.resetOnes := by
  refine State.onesNotices_eq_noticesOfOnes fun r hr a ha => ?_
  have hk := State.resetOnes_counters ha
  simp only [List.mem_cons, List.not_mem_nil, or_false] at hk
  rw [h r hr]
  omega

/-! ### Runs closed (R146) -/

/-- R188: the RUN_CLOSED report of a LINE_RESET. -/
def Run.closedFrame (r : Run) : Frame :=
  { kind := 0x4C#8, tag := 0#8
    body :=
      le2 r.id ++ [bankField r.bank] ++ le2 r.startTag.toNat ++ le2 (r.endTag.getD 0#16).toNat ++
        le4 (r.counter 128).value ++ [0x01#8] }

theorem runClosedBytes_lineReset (r : Run) : runClosedBytes r .lineReset = r.closedFrame.body := by
  have bank : byteOf (bankCode r.bank) = bankField r.bank := by cases r.bank <;> rfl
  rw [runClosedBytes, bank]
  rfl

theorem State.closeRun_tally (c : CloseCause) (s : State) (r : Run) :
    (s.closeRun c r).tally =
      { s.tally with runs := s.tally.runs.map fun q => if q.id == r.id then { q with state := .closed } else q } :=
  State.offer_same _ _ _ _ .tally (by decide)

theorem State.closeRun_line_same (c : CloseCause) (s : State) (r : Run) : s.sameExcept [.tally, .linePort] (s.closeRun c r) :=
  (s.mapRuns_same _ _).after (State.offer_line_same _ _ _) (by decide) (by decide)

theorem State.closeRuns_line_same (s : State) (c : CloseCause) (p : Run → Bool) :
    s.sameExcept [.tally, .linePort] (s.closeRuns c p) := .foldl (State.closeRun_line_same c) _ s

theorem State.closeRuns_lineOffered (s : State) (c : CloseCause) (p : Run → Bool) : s.LineOffered (s.closeRuns c p) :=
  .foldl (fun t _ => (State.LineOffered.of_eq (t := t.mapRuns _ _) rfl).trans (State.offer_lineOffered _ _ _ _)) _ s

theorem State.foldl_closeRun_tally (c : CloseCause) (rs : List Run) (s : State) :
    (rs.foldl (State.closeRun c) s).tally =
      { s.tally with
        runs := s.tally.runs.map fun q => if q.id ∈ rs.map fun r => r.id then { q with state := .closed } else q } := by
  induction rs generalizing s with
  | nil => simp
  | cons r rs ih =>
    rw [List.foldl_cons, ih, State.closeRun_tally]
    simp only [List.map_map]
    congr 2
    funext q
    by_cases h : q.id = r.id <;> simp [h]

theorem State.foldl_closeRun_linePort {s : State} (hs : s.line.resetting = false) (rs : List Run) :
    (rs.foldl (State.closeRun .lineReset) s).linePort = s.linePort.offers 32 8 (rs.map Run.closedFrame) := by
  induction rs generalizing s with
  | nil => rfl
  | cons r rs ih =>
    have line : (s.closeRun .lineReset r).line = s.line := State.closeRun_line_same _ s r .line (by decide)
    have first : (s.closeRun .lineReset r).linePort = s.linePort.offers 32 8 [r.closedFrame] := by
      rw [State.closeRun, runClosedBytes_lineReset, State.offer_line_eq (s := s.mapRuns _ _) hs]
      rfl
    rw [List.foldl_cons, ih (line ▸ hs), first]
    rfl

/-- R162: every CLOSING run becomes CLOSED. -/
theorem State.closeRuns_runs {s : State} (unique : (s.tally.runs.map fun r => r.id).Nodup) (c : CloseCause) :
    (s.closeRuns c fun _ => true).tally.runs =
      s.tally.runs.map fun r => if r.state = .closing then { r with state := .closed } else r := by
  rw [State.closeRuns, State.foldl_closeRun_tally]
  refine List.map_congr_left fun q hq => ?_
  have named : q.id ∈ ((s.tally.runs.filter fun r => r.state == .closing && true).map fun r => r.id) ↔
      q.state = .closing := by
    constructor
    · intro h
      obtain ⟨r, hr, hid⟩ := List.mem_map.1 h
      obtain ⟨hr, closing⟩ := List.mem_filter.1 hr
      rw [← List.inj_on_of_nodup_map unique hr hq hid]
      simpa using closing
    · intro h
      exact List.mem_map_of_mem (List.mem_filter.2 ⟨hq, by simp [h]⟩)
  exact if_congr named rfl rfl

/-! ### Everything in flight emptied (R16, R36, R76, R106, R126, R140) -/

/-- The state that LINE_RESET has counted and emptied, before its reports. -/
def State.emptied (s : State) : State := s.countDiscards.emptyLine

/-- LINE_RESET as far as its OWNER report. -/
def State.reclaimed (s : State) : State :=
  if s.trimmer.ownership = .auto then s.emptied else s.emptied.reportOwner .lineReset s.emptied.nextHorizonTag

theorem State.lineReset_eq (s : State) : s.lineReset = (s.reclaimed.closeRuns .lineReset fun _ => true).abortDrain := rfl

theorem State.reclaimed_same (s : State) : s.emptied.sameExcept portBlocks s.reclaimed := by
  unfold State.reclaimed
  split
  · exact .refl _ _
  · exact State.reportOwner_same _ _ _

theorem State.abortDrain_same (s : State) : s.sameExcept [.line, .linePort] s.abortDrain := by
  unfold State.abortDrain
  split
  · exact .refl _ s
  · have setLine : ∀ l : LineControl, s.sameExcept [.line] (s.setLine l) := by
      intro l b hb
      cases b <;> first | rfl | simp at hb
    exact (setLine _).after (State.offer_line_same _ _ _) (by decide) (by decide)

theorem State.lineReset_same (s : State) :
    s.emptied.sameExcept [.tally, .line, .linePort, .consolePort] s.lineReset :=
  ((s.reclaimed_same.mono (by decide)).trans ((State.closeRuns_line_same _ _ _).mono (by decide))).trans
    ((State.abortDrain_same _).mono (by decide))

theorem State.lineReset_tracker (s : State) :
    s.lineReset.tracker = { serial := s.tracker.serial, homeCount := 0, synced := false, eye := none, ring := [] } := by
  have kept : s.countDiscards.tracker = s.tracker := s.countDiscards_same .tracker (by decide)
  refine (s.lineReset_same .tracker (by decide)).trans ?_
  rw [← kept]
  rfl

theorem State.lineReset_intake (s : State) :
    s.lineReset.intake = { heads := s.intake.heads.map fun h => { h with membership := none }, calibrations := [] } := by
  have kept : s.countDiscards.intake = s.intake := s.countDiscards_same .intake (by decide)
  refine (s.lineReset_same .intake (by decide)).trans ?_
  rw [← kept]
  rfl

theorem State.lineReset_logs (s : State) : s.lineReset.logs = { s.logs with current := none } :=
  (s.lineReset_same .logs (by decide)).trans s.countDiscards_logs

theorem State.lineReset_trimmer (s : State) :
    s.lineReset.trimmer = { s.trimmer with ownership := .auto, pattern := .pass, timer := none } := by
  have kept : s.countDiscards.trimmer = s.trimmer := s.countDiscards_same .trimmer (by decide)
  refine (s.lineReset_same .trimmer (by decide)).trans ?_
  rw [← kept]
  rfl

theorem State.lineReset_outfeed (s : State) : s.lineReset.outfeed = { s.outfeed with applied := none } := by
  have kept : s.countDiscards.outfeed = s.outfeed := s.countDiscards_same .outfeed (by decide)
  refine (s.lineReset_same .outfeed (by decide)).trans ?_
  rw [← kept]
  rfl

theorem State.lineReset_grading (s : State) :
    s.lineReset.grading = { engines := [.idle, .idle, .idle], queue := [], regrades := [] } :=
  s.lineReset_same .grading (by decide)

theorem State.lineReset_patterns (s : State) : s.lineReset.patterns = [] := s.lineReset_same .patterns (by decide)

/-- R162: what LINE_RESET leaves alone, whole blocks of it. -/
theorem State.lineReset_kept (s : State) :
    s.lineReset.rules = s.rules ∧ s.lineReset.selection = s.selection ∧ s.lineReset.pins = s.pins ∧
      s.lineReset.outputs = s.outputs ∧ s.lineReset.pending = s.pending :=
  have before := s.countDiscards_same
  have after := s.lineReset_same
  ⟨(after .rules (by decide)).trans (before .rules (by decide)),
    (after .selection (by decide)).trans (before .selection (by decide)),
    (after .pins (by decide)).trans (before .pins (by decide)),
    (after .outputs (by decide)).trans (before .outputs (by decide)),
    (after .pending (by decide)).trans (before .pending (by decide))⟩

theorem State.emptied_line (s : State) :
    s.emptied.line =
      { s.line with state := .configuring, latch := { lugSkip := false, allHeadsLost := false } } := by
  have kept : s.countDiscards.line = s.line := s.countDiscards_same .line (by decide)
  rw [← kept]
  rfl

theorem State.reclaimed_line (s : State) : s.reclaimed.line = s.emptied.line := s.reclaimed_same .line (by decide)

theorem State.closed_line (s : State) (c : CloseCause) (p : Run → Bool) : (s.reclaimed.closeRuns c p).line = s.emptied.line :=
  (State.closeRuns_line_same _ c p .line (by decide)).trans s.reclaimed_line

theorem State.abortDrain_line (s : State) : s.abortDrain.line = { s.line with drain := none } := by
  unfold State.abortDrain
  split
  · rename_i h
    rw [← h]
  · exact State.offer_line_same _ _ _ .line (by decide)

theorem State.lineReset_line (s : State) :
    s.lineReset.line =
      { s.line with state := .configuring, latch := { lugSkip := false, allHeadsLost := false }, drain := none } := by
  rw [State.lineReset_eq, State.abortDrain_line, State.closed_line, State.emptied_line]

/-! ### The tally after LINE_RESET -/

theorem State.reclaimed_tally (s : State) : s.reclaimed.tally = s.countDiscards.tally := s.reclaimed_same .tally (by decide)

theorem State.lineReset_tally (s : State) : s.lineReset.tally = (s.reclaimed.closeRuns .lineReset fun _ => true).tally :=
  State.abortDrain_same _ .tally (by decide)

theorem State.lineReset_figures (s : State) :
    s.lineReset.tally.unattributed = s.resetTally.unattributed ∧ s.lineReset.tally.logRun = s.tally.logRun := by
  rw [State.lineReset_tally, State.closeRuns, State.foldl_closeRun_tally, State.reclaimed_tally]
  exact ⟨s.countDiscards_tally.1, s.countDiscards_kept.logRun⟩

theorem State.lineReset_runs {s : State} (unique : (s.tally.runs.map fun r => r.id).Nodup) :
    s.lineReset.tally.runs =
      s.resetTally.runs.map fun r => if r.state = .closing then { r with state := .closed } else r := by
  have ids : (s.reclaimed.tally.runs.map fun r => r.id).Nodup := by
    rw [State.reclaimed_tally, s.countDiscards_kept.ids]
    exact unique
  rw [State.lineReset_tally, State.closeRuns_runs ids, State.reclaimed_tally, s.countDiscards_tally.2 unique]

/-- R162: the run table but for the counters: CLOSING runs CLOSED, the rest kept. -/
theorem State.lineReset_table {s : State} (unique : (s.tally.runs.map fun r => r.id).Nodup) :
    (s.lineReset.tally.runs.map fun r => (r.key, r.id, r.bank, r.startTag, r.endTag, r.state)) =
      s.tally.runs.map fun r =>
        (r.key, r.id, r.bank, r.startTag, r.endTag, if r.state = .closing then .closed else r.state) := by
  rw [State.lineReset_runs unique, ← s.countDiscards_tally.2 unique, List.map_map,
    ← s.countDiscards_kept.map_eq
      (fun r => (r.key, r.id, r.bank, r.startTag, r.endTag, if r.state = .closing then RunState.closed else r.state))
      fun _ => rfl]
  refine List.map_congr_left fun r _ => ?_
  simp only [Function.comp]
  split <;> rfl

/-! ### The reports of LINE_RESET in their order -/

/-- R112: the OWNER report of a LINE_RESET, if the ownership changes. -/
def State.ownerFrames (s : State) : List Frame :=
  if s.trimmer.ownership = .auto then []
  else
    [{ kind := 0x4A#8, tag := 0#8
       body :=
        [0x00#8, 0x05#8] ++
          le2 (s.tracker.serial + 1#16 -
            (BitVec.ofNat 16 s.line.config.d - BitVec.ofNat 16 s.line.config.h)).toNat }]

/-- R165: the DRAIN_DONE report of a drain that is aborted. -/
def State.drainFrames (s : State) : List Frame :=
  match s.line.drain with
  | none => []
  | some d => [{ kind := 0x4D#8, tag := 0#8, body := [0x01#8] ++ le2 d.toNat }]

theorem State.emptied_nextHorizonTag (s : State) :
    s.emptied.nextHorizonTag =
      s.tracker.serial + 1#16 - (BitVec.ofNat 16 s.line.config.d - BitVec.ofNat 16 s.line.config.h) := by
  have tracker : s.countDiscards.tracker = s.tracker := s.countDiscards_same .tracker (by decide)
  have line : s.countDiscards.line = s.line := s.countDiscards_same .line (by decide)
  rw [← tracker, ← line]
  rfl

/-- R112, R188: the OWNER report of the ownership as it stands. -/
def State.ownerFrame (s : State) (c : OwnerCause) (first : Tag) : Frame :=
  { kind := 0x4A#8, tag := 0#8
    body := [byteOf (ownershipCode s.trimmer.ownership), byteOf (ownerCauseCode c)] ++ le2 first.toNat }

theorem State.offer_console_eq {s : State} (h : s.line.resetting = false) (k : Byte) (body : List Byte) :
    s.offer .console k body =
      { s with consolePort := s.consolePort.offers 16 4 [{ kind := k, tag := 0#8, body := body }] } := by
  simp only [State.offer, h]
  rfl

theorem State.reportOwner_ports {s : State} (h : s.line.resetting = false) (c : OwnerCause) (first : Tag) :
    (s.reportOwner c first).linePort = s.linePort.offers 32 8 [s.ownerFrame c first] ∧
      (s.reportOwner c first).consolePort = s.consolePort.offers 16 4 [s.ownerFrame c first] := by
  rw [State.reportOwner, State.offer_line_eq h, State.offer_console_eq (s := s.offerLine _) h]
  exact ⟨rfl, rfl⟩

theorem State.reclaimed_ports {s : State} (h : s.line.resetting = false) :
    s.reclaimed.linePort = s.countDiscards.linePort.offers 32 8 s.ownerFrames ∧
      s.reclaimed.consolePort = s.consolePort.offers 16 4 s.ownerFrames := by
  have console : s.emptied.consolePort = s.consolePort := s.countDiscards_same .consolePort (by decide)
  unfold State.reclaimed State.ownerFrames
  split
  · exact ⟨rfl, console⟩
  · have resetting : s.emptied.line.resetting = false := by rw [State.emptied_line, h]
    obtain ⟨line, other⟩ := State.reportOwner_ports resetting .lineReset s.emptied.nextHorizonTag
    rw [line, other, console, State.emptied_nextHorizonTag]
    exact ⟨rfl, rfl⟩

theorem State.abortDrain_linePort {s : State} (h : s.line.resetting = false) :
    s.abortDrain.linePort = s.linePort.offers 32 8 s.drainFrames := by
  cases hd : s.line.drain with
  | none =>
    simp only [State.abortDrain, State.drainFrames, hd]
    rfl
  | some d =>
    simp only [State.abortDrain, State.drainFrames, hd, State.reportDrainDone]
    rw [State.offer_line_eq (s := s.setLine { s.line with drain := none }) h]
    rfl

theorem State.lineReset_consolePort {s : State} (h : s.line.resetting = false) :
    s.lineReset.consolePort = s.consolePort.offers 16 4 s.ownerFrames := by
  rw [← (State.reclaimed_ports h).2, State.lineReset_eq]
  exact (State.abortDrain_same _ .consolePort (by decide)).trans
    (State.closeRuns_line_same _ _ _ .consolePort (by decide))

/-- R162: the notices of the counts, OWNER, RUN_CLOSED for each CLOSING run, DRAIN_DONE. -/
theorem State.lineReset_linePort {s : State} (h : s.line.resetting = false)
    (unique : (s.tally.runs.map fun r => r.id).Nodup) :
    s.lineReset.linePort =
      s.linePort.offers 32 8
        (s.onesNotices s.resetOnes ++ s.ownerFrames ++
          (s.resetTally.runs.filter fun r => r.state == .closing).map Run.closedFrame ++ s.drainFrames) := by
  have resetting : s.emptied.line.resetting = false := by rw [State.emptied_line, h]
  have drain : (s.reclaimed.closeRuns .lineReset fun _ => true).drainFrames = s.drainFrames := by
    unfold State.drainFrames
    rw [State.closed_line, State.emptied_line]
  have closing : (s.reclaimed.tally.runs.filter fun r => r.state == .closing && true) =
      s.resetTally.runs.filter fun r => r.state == .closing := by
    simp only [State.reclaimed_tally, s.countDiscards_tally.2 unique, Bool.and_true]
  have closed : (s.reclaimed.closeRuns .lineReset fun _ => true).linePort =
      s.reclaimed.linePort.offers 32 8 ((s.resetTally.runs.filter fun r => r.state == .closing).map Run.closedFrame) := by
    rw [State.closeRuns, closing]
    exact State.foldl_closeRun_linePort (s.reclaimed_line ▸ resetting) _
  rw [State.lineReset_eq, State.abortDrain_linePort (by rw [State.closed_line, resetting]), drain, closed,
    (State.reclaimed_ports h).1, (State.countDiscards_countedBy unique h).linePort]
  simp only [PortState.offers_append]

/-- Frames apart, LINE_RESET leaves the line port alone. -/
theorem State.lineReset_lineOffered (s : State) : s.LineOffered s.lineReset := by
  have owner : s.emptied.LineOffered s.reclaimed := by
    unfold State.reclaimed
    split
    · exact .of_eq rfl
    · exact (State.offer_lineOffered _ _ _ _).trans (State.offer_lineOffered _ _ _ _)
  have drain : ∀ t : State, t.LineOffered t.abortDrain := by
    intro t
    unfold State.abortDrain
    split
    · exact .of_eq rfl
    · exact (State.LineOffered.of_eq rfl).trans (State.offer_lineOffered (t.setLine _) _ _ _)
  have emptied : s.LineOffered s.emptied := s.countDiscards_kept.offered
  exact ((emptied.trans owner).trans (State.closeRuns_lineOffered _ _ _)).trans (drain _)

end Sys2Proof.Machine
end

section
/-! Settlement of O33: LINE_RESET. -/

namespace Sys2Proof.Machine

/-- The state in which LINE_RESET takes effect: its frame taken and its reply queued (R168). -/
abbrev State.resetReplied (s : State) (f : Frame) : State := s.answered .line f .ok []

theorem execLineReset_answered {s : State} {f : Frame} (h : s.asks .line f) (hk : f.kind = 0x09#8) :
    (f.body ≠ [] → exec (.lineReset .line) s = .next (s.answered .line f .badFormat [])) ∧
      (f.body = [] → exec (.lineReset .line) s = .next (s.resetReplied f).lineReset) := by
  change (_ → execLineReset .line s = _) ∧ (_ → execLineReset .line s = _)
  unfold execLineReset
  rw [State.takeRequest_answer h hk rfl, answerLineReset]
  refine ⟨fun long => ?_, fun empty => ?_⟩
  · rw [if_pos long, State.answer_refuse]
    rfl
  · rw [if_neg (not_not_intro empty), State.answer_eq]
    rfl

theorem State.resetReplied_resetTally (s : State) (f : Frame) :
    (s.resetReplied f).resetTally = s.resetTally := by
  have boards : (s.resetReplied f).countBoards.tally = s.countBoards.tally :=
    State.foldl_countReset_tally_congr (s := s) (t := s.resetReplied f) rfl s.tracker.ring
  unfold State.resetTally
  rw [boards]
  rfl

/-- The reply to a request stays in the line port's queue, whatever frames are offered after it. -/
theorem State.LineOffered.keeps_reply {s t : State} {f : Frame} (hk : f.kind = 0x09#8)
    (h : (s.resetReplied f).LineOffered t) :
    { kind := 0x89#8, tag := f.tag, body := [0x00#8] } ∈ t.linePort.outbound ∧ t.linePort.inbound = none := by
  obtain ⟨fs, port⟩ := h
  have kind : f.kind + 0x80#8 = 0x89#8 := by rw [hk]; rfl
  have queued : { kind := 0x89#8, tag := f.tag, body := [0x00#8] } ∈ (s.resetReplied f).linePort.outbound := by
    rw [← kind]
    exact List.mem_append_right _ (List.mem_singleton_self _)
  rw [port]
  exact ⟨PortState.mem_offers queued rfl 32 8 fs, PortState.offers_inbound _ 32 8 fs⟩

/-- R162: the reports that LINE_RESET offers after its reply, and when its counts raise notices. -/
theorem State.lineReset_ports {s : State} (hs : s.line.resetting = false)
    (unique : (s.tally.runs.map fun r => r.id).Nodup) :
    s.lineReset.consolePort = s.consolePort.offers 16 4 s.ownerFrames ∧
      ∃ saturated : List Frame,
        s.lineReset.linePort =
            s.linePort.offers 32 8
              (saturated ++ s.ownerFrames ++
                (s.resetTally.runs.filter fun r => r.state == .closing).map Run.closedFrame ++ s.drainFrames) ∧
          (∀ g ∈ saturated, ∃ r ∈ s.tally.runs, ∃ k ∈ [120, 128, 131],
            g = { kind := 0x48#8, tag := 0#8, body := [0x06#8] ++ le2 r.id ++ [byteOf k, 0xFF#8] }) ∧
          (s.line.noticeMask.getLsbD 6 = false ∨
              (∀ r ∈ s.tally.runs, ∀ k ∈ [120, 128, 131], (r.counter k).value + s.tracker.ring.length + 1 < 4294967295) →
            saturated = []) ∧
          ((∀ r ∈ s.tally.runs, r.counters.length = 133) → saturated = s.noticesOfOnes s.resetOnes) :=
  ⟨State.lineReset_consolePort hs, s.onesNotices s.resetOnes, State.lineReset_linePort hs unique,
    fun _ => State.mem_resetNotices, State.resetNotices_of_quiet, State.resetNotices_eq⟩

/-- Settles O33: LINE_RESET by its parts (its counts, the emptied blocks, the closed runs, the reports in order), and what
it counts for one record of the ring. -/
theorem lineResetEmptiesTheLine : Obligations.LineResetEmptiesTheLine := by
  refine ⟨fun s f h hk => ⟨(execLineReset_answered h hk).1, fun empty => ?_⟩, fun s b => ?_⟩
  · have tally : (s.resetReplied f).resetTally = s.resetTally := s.resetReplied_resetTally f
    obtain ⟨rules, selection, pins, outputs, pending⟩ := (s.resetReplied f).lineReset_kept
    obtain ⟨figures, logRun⟩ := (s.resetReplied f).lineReset_figures
    obtain ⟨reply, inbound⟩ := (s.resetReplied f).lineReset_lineOffered.keeps_reply hk
    refine ⟨_, (execLineReset_answered h hk).2 empty, State.lineReset_tracker _, State.lineReset_intake _,
      State.lineReset_logs _, rules, State.lineReset_grading _, State.lineReset_patterns _, State.lineReset_trimmer _,
      State.lineReset_outfeed _, State.lineReset_line _, fun unique => ?_, ⟨?_, fun unique => ⟨?_, fun hs => ?_⟩⟩,
      logRun, selection, pins, outputs, pending, reply, inbound⟩
    · exact State.lineReset_table (s := s.resetReplied f) unique
    · rw [figures, tally]
      rfl
    · rw [State.lineReset_runs (s := s.resetReplied f) unique, tally]
      rfl
    · obtain ⟨console, saturated, line, named, quiet, exact_notices⟩ :=
        State.lineReset_ports (s := s.resetReplied f) hs unique
      rw [tally] at line
      exact ⟨console, saturated, line, named, quiet, exact_notices⟩
  · refine ⟨fun cut => State.countReset_of_cut cut s, fun unbooked => ⟨fun work => ?_, fun w scanning window => ?_⟩,
      fun id r booked found unique places => ⟨fun work => ?_, fun w scanning window => ?_⟩,
      fun id r booked found inside work => State.countReset_discards booked found inside work⟩
    · exact State.countReset_unbooked_discarded unbooked work s
    · exact ⟨fun unseen => State.countReset_of_unseen scanning window (not_seen_of_forall unseen) s,
        fun seen => State.countReset_unbooked_scanned unbooked scanning window seen s⟩
    · have raised := State.countReset_raises booked found unique places
      rwa [Board.resetCounters_of_inWork work] at raised
    · refine ⟨fun unseen => State.countReset_of_unseen scanning window (not_seen_of_forall unseen) s, fun seen => ?_⟩
      have raised := State.countReset_raises booked found unique places
      rwa [Board.resetCounters_of_seen scanning window seen] at raised

end Sys2Proof.Machine
end
